-- ==== Sys2Proof/Word.lean ====
section
/-! DEFINITION. The word types of the ports and of flash, and the plainest arithmetic: clamping to a range
(00_scope.md, Conventions). -/

namespace Sys2Proof

/-- One byte: a port byte, a flash byte, a luma or chroma sample. -/
abbrev Byte := BitVec 8

/-- A two-byte integer field of a frame (R196). -/
abbrev Half := BitVec 16

/-- A four-byte integer field of a frame (R196). -/
abbrev Quad := BitVec 32

/-- Clamping: a value below the range is replaced by `lo`, one above it by `hi` (00_scope.md, Conventions). -/
def clamp (lo hi x : Nat) : Nat := max lo (min hi x)

/-- Clamping of a signed value. -/
def clampInt (lo hi x : Int) : Int := max lo (min hi x)

end Sys2Proof
end

