-- ==== Sys2Proof/Config.lean ====
section
/-! DEFINITION. The fixed numbers of the part, and the free values: what the manual leaves open, as constants
with no body, so that no statement can rest on one. -/

namespace Sys2Proof.Config

/-- A frame slot is 24 MiB of frame memory (01_frame_memory_and_sensor_intake.md, region table). -/
def slotBytes : Nat := 25165824

/-- Save buffer 0 stands at 240 MiB (01_frame_memory_and_sensor_intake.md, region table). -/
def bufferBase : Nat := 251658240

/-- A save buffer is 3 MiB (01_frame_memory_and_sensor_intake.md, region table). -/
def bufferBytes : Nat := 3145728

/-- What an unlisted byte of frame memory reads as. DESIGN CHOICE (log 6): the manual gives frame memory no
contents at power-on, and no rule reads a byte that nothing has written. -/
def blankByte : Byte := 0

/-- The largest publish sequence and save sequence, 2^32 − 1 (R10, R153). -/
def maxSequence : Nat := 4294967295

/-- The top of the 16-bit event counters (R6, R95). -/
def maxCount : Nat := 65535

/-- FREE VALUE (log 7): how many pixels of a running save render had been computed when the paper map was
replaced for the n-th time during a render. R31 and R56 take the map as it stands at each pixel, and no rule
says how far the render has come. -/
opaque renderProgress : Nat → Nat

/-- FREE VALUE (log 7): how many pixels of the projector's frame had been computed when the paper map was replaced
for the n-th time during a render. -/
opaque projectorProgress : Nat → Nat

/-- FREE VALUE (log 7): how many pixels of the tap's frame had been computed when the paper map was replaced for the
n-th time during a render. -/
opaque tapProgress : Nat → Nat

/-- FREE VALUE (log 10): the level of the tap-ready input at the n-th time a request reports it. No rule tells of an
event at which the input changes: R95 samples it at a tap frame start, R96 and R195 where a request is taken. -/
opaque tapReadyLevel : Nat → Bool

/-- FREE VALUE (log 16): the count byte before the 256 entries of GET_SCENE's MAP section. R196 puts one there, and
256 does not fit a byte. -/
opaque mapCount : Byte

/-- FREE VALUE (log 9): which of several conflicting pairs of STORED pages the duplicate pass of R152 settles
next. R152 gives no order. -/
opaque duplicateChoice : List (Nat × Nat) → Nat

end Sys2Proof.Config
end

