-- ==== Sys2Proof/Syntax.lean ====
section
/-! DEFINITION. The commands of the part: one constructor of `Instr` for each row of spec/opcode_table.json, with
the row's operands. The operands of a request are the parameter bytes of its frame, read as R196 gives their
sizes, so that every value a controller can send is a command. -/

namespace Sys2Proof

/-- The three control ports (00_scope.md): CP0 the panel port, CP1 the system port, CP2 the bridge port. -/
inductive PortId
  | cp0
  | cp1
  | cp2
  deriving DecidableEq, Repr

/-- The two flash devices, by chip select (R126). -/
inductive DevId
  | d0
  | d1
  deriving DecidableEq, Repr

/-- A request frame as it waits in a request queue: the code byte and the parameter bytes (R186). -/
structure Frame where
  code : Byte
  params : List Byte
  deriving DecidableEq, Repr

/-- The optional profile fields of SET_STORE_PROFILE, in the order of R196's request code table. -/
structure ProfileFields where
  divider : Option Byte
  busyBit : Option Byte
  busyPolarity : Option Byte
  pollInterval : Option Half
  programTimeout : Option Half
  sectorTimeout : Option Half
  blockTimeout : Option Half
  deriving DecidableEq, Repr

/-- One command entry of SET_STORE_PROFILE: a command kind with any of its six fields (R128, R196). -/
structure ProfileEntry where
  kind : Byte
  code : Option Byte
  commandLanes : Option Byte
  addressLanes : Option Byte
  dataLanes : Option Byte
  addressBytes : Option Byte
  dummyCycles : Option Byte
  deriving DecidableEq, Repr

/-- R185, R186: a stretch of a transaction: its bytes, or how many they are, and whether chip select rises after them.
A command with a stretch that does not end leaves the transaction in progress, and the next command of its kind at
that port carries it on (log 14). -/
structure Stretch (α : Type) where
  part : α
  ends : Bool
  deriving DecidableEq, Repr

/-- R186: the bytes a stretch of a SEND_REQUEST shifts in. -/
abbrev ByteStretch := Stretch (List Byte)

/-- The commands: the rows of spec/opcode_table.json, in the table's order. -/
inductive Instr
  /-- R3: a frame-start packet arrives, carrying a frame number. -/
  | frameStartPacket (frameNumber : Half)
  /-- R4: a line packet arrives, carrying a line number, a pixel count, data bytes and a checksum. -/
  | linePacket (line : Nat) (pixels : Nat) (data : List Byte) (checksum : Half)
  /-- R7: a frame-end packet arrives. -/
  | frameEndPacket
  /-- R1: a packet of no known kind arrives. -/
  | unrecognisedPacket (contents : List Byte)
  /-- R8: 500 ms have passed without a frame start being taken. -/
  | linkLossTimerExpiry
  /-- R80: the projector pipe's generator passes line 0, pixel 0. -/
  | projectorFrameStart
  /-- R80: the tap pipe's generator passes line 0, pixel 0; `tapReady` is the tap-ready input sampled there (R95). -/
  | tapFrameStart (tapReady : Bool)
  /-- R94: the projector-present input falls. -/
  | projectorPresentFall
  /-- R94: the projector-present input rises. -/
  | projectorPresentRise
  /-- R99, R100: a lens transaction ends, with the driver's answer to each of the three bytes. -/
  | lensTransactionEnd (ackAddress ackFirst ackSecond : Bool)
  /-- R99: the driver has held the lens clock low for more than 10 ms. -/
  | lensClockHoldTimeout
  /-- R115: count 0 of a lamp period. -/
  | lampPeriodStart
  /-- R116: the lamp-fault input goes active. -/
  | lampFaultActive
  /-- R116: the lamp-fault input goes inactive. -/
  | lampFaultInactive
  /-- R118: the minute interval reaches 60 s. -/
  | minuteIntervalElapsed
  /-- R118, R120: the advance of the minute count that reaches the idle timeout. -/
  | idleTimerExpiry
  /-- R133: the next poll time of a BUSY device is reached. -/
  | pollDue (dev : DevId)
  /-- R133, R134, R137: a status poll ends at a moment, with the status byte read. -/
  | statusPollEnd (moment : Nat) (status : Byte)
  /-- R132: a program or erase ends on the bus at a moment. -/
  | programEraseBusEnd (moment : Nat)
  /-- R138: a read ends on the bus with the bytes read. -/
  | readEnd (bytes : List Byte)
  /-- R134: the ID read of a recheck ends with its three bytes. -/
  | idRecheckEnd (id0 id1 id2 : Byte)
  /-- R137: the ID read of a mount probe ends with its three bytes. -/
  | probeIdReadEnd (id0 id1 id2 : Byte)
  /-- R172: the save render in progress ends. -/
  | saveRenderEnd
  /-- R185: a POLL transaction with so many bytes after its first. -/
  | poll (port : PortId) (extra : Stretch Nat)
  /-- R186: a SEND_REQUEST transaction with the bytes shifted in after the transaction type. -/
  | sendRequest (port : PortId) (bytes : ByteStretch)
  /-- R188: a FETCH_ANSWER transaction that shifts out so many bytes after the first. -/
  | fetchAnswer (port : PortId) (shifted : Stretch Nat)
  /-- R185: a transaction of an unknown type, with so many bytes after its first. -/
  | unknownTransactionType (port : PortId) (type : Byte) (extra : Stretch Nat)
  /-- R187: a request frame whose code is unknown or whose length does not fit. -/
  | badRequest (port : PortId) (code : Byte) (params : List Byte)
  /-- R193: a port's reset input becomes active. -/
  | portReset (port : PortId)
  /-- R193: a port's reset input becomes inactive. -/
  | portResetRelease (port : PortId)
  /-- R193: a port's 2 ms busy interval ends. -/
  | portBusyEnd (port : PortId)
  /-- R194: power-up. -/
  | powerOnReset
  /-- R195. -/
  | status (port : PortId)
  /-- R190. -/
  | nextNotice (port : PortId)
  /-- R191. -/
  | setAttentionMark (port : PortId) (mark : Byte)
  /-- R194. -/
  | resetDevice (port : PortId)
  /-- R123. -/
  | wake (port : PortId)
  /-- R48. -/
  | setView (port : PortId) (zoom qx qy : Half)
  /-- R49; all three fields are signed. -/
  | nudgeView (port : PortId) (zoomDelta dx dy : Half)
  /-- R50. -/
  | setGlide (port : PortId) (rate : Half)
  /-- R51. -/
  | getView (port : PortId)
  /-- R69. -/
  | setEnhance (port : PortId) (flatten sharpen core threshold floor : Option Byte)
  /-- R70. -/
  | getEnhance (port : PortId)
  /-- R71. -/
  | loadTone (port : PortId) (start : Half) (values : List Byte)
  /-- R72. -/
  | loadToneNext (port : PortId) (values : List Byte)
  /-- R73. -/
  | commitTone (port : PortId)
  /-- R70. -/
  | getTone (port : PortId) (bank : Byte) (start : Half) (count : Byte)
  /-- R77. -/
  | setOutput (port : PortId) (projector tap : Byte)
  /-- R96. -/
  | getOutput (port : PortId)
  /-- R87. -/
  | freeze (port : PortId)
  /-- R88. -/
  | showLive (port : PortId)
  /-- R89. -/
  | releaseFreeze (port : PortId)
  /-- R90. -/
  | showPage (port : PortId)
  /-- R91. -/
  | split (port : PortId) (reference : Byte)
  /-- R36. -/
  | getScene (port : PortId) (sectionByte item source : Byte)
  /-- R33. -/
  | setMotionDelta (port : PortId) (delta : Byte)
  /-- R108. -/
  | focusAuto (port : PortId) (threshold : Option Half)
  /-- R109. -/
  | focusManual (port : PortId) (position : Half)
  /-- R110. -/
  | setFocusLink (port : PortId) (address : Byte)
  /-- R111. -/
  | getFocus (port : PortId)
  /-- R117. -/
  | setLamp (port : PortId) (level : Half)
  /-- R123. -/
  | setIdle (port : PortId) (timeout : Half) (wakeThreshold : Option Half)
  /-- R128. -/
  | setStoreProfile (port : PortId) (fields : ProfileFields) (entries : List ProfileEntry)
  /-- R128. -/
  | getStoreProfile (port : PortId)
  /-- R150. -/
  | mount (port : PortId)
  /-- R154. -/
  | unmount (port : PortId)
  /-- R166. -/
  | storeStatus (port : PortId)
  /-- R160. -/
  | newLesson (port : PortId) (name : List Byte)
  /-- R161; 0xFF is NONE. -/
  | selectLesson (port : PortId) (lesson : Byte)
  /-- R162. -/
  | setLessonLock (port : PortId) (lesson lock : Byte)
  /-- R163. -/
  | deletePage (port : PortId) (page : Half)
  /-- R164. -/
  | wipeLesson (port : PortId) (lesson : Byte)
  /-- R165. -/
  | listLessons (port : PortId) (start : Byte)
  /-- R165. -/
  | listPages (port : PortId) (lesson : Byte) (start : Half)
  /-- R170, R171. -/
  | savePage (port : PortId) (mode : Byte)
  /-- R178. -/
  | recallPage (port : PortId) (page : Half) (display : Byte)
  /-- R182. -/
  | readPageData (port : PortId) (page : Half) (offset : Quad) (length : Half)
  deriving DecidableEq, Repr

end Sys2Proof
end

