-- ==== Sys2Proof/WellFormed.lean ====
section
/-! DEFINITION. Which terms of `Instr` spell a command the outside world can give: the lengths R186 and R196 let
a frame have, the length of a read (R127), and the transaction types that are unknown (R185). -/

namespace Sys2Proof

/-- Bytes an optional one-byte field takes in a frame (R196). -/
def optionalByteSize (f : Option Byte) : Nat := if f.isSome then 1 else 0

/-- Bytes an optional two-byte field takes in a frame (R196). -/
def optionalHalfSize (f : Option Half) : Nat := if f.isSome then 2 else 0

/-- Bytes one command entry of SET_STORE_PROFILE takes (R196): kind, entry presence, fields carried. -/
def ProfileEntry.size (e : ProfileEntry) : Nat :=
  2 + optionalByteSize e.code + optionalByteSize e.commandLanes + optionalByteSize e.addressLanes +
    optionalByteSize e.dataLanes + optionalByteSize e.addressBytes + optionalByteSize e.dummyCycles

/-- Parameter bytes of a SET_STORE_PROFILE (R196). -/
def profileSize (fields : ProfileFields) (entries : List ProfileEntry) : Nat :=
  1 + optionalByteSize fields.divider + optionalByteSize fields.busyBit + optionalByteSize fields.busyPolarity +
    optionalHalfSize fields.pollInterval + optionalHalfSize fields.programTimeout +
    optionalHalfSize fields.sectorTimeout + optionalHalfSize fields.blockTimeout +
    (entries.map ProfileEntry.size).sum

namespace Instr

/-- A command the outside world can give. -/
def wellFormed : Instr → Bool
  | .readEnd bytes => 1 ≤ bytes.length && bytes.length ≤ 4096
  | .unknownTransactionType _ type _ => 2 < type.toNat
  | .badRequest _ _ params => params.length ≤ 66
  | .loadTone _ _ values => 1 ≤ values.length && values.length ≤ 64
  | .loadToneNext _ values => 1 ≤ values.length && values.length ≤ 64
  | .newLesson _ name => name.length ≤ 62
  | .setStoreProfile _ fields entries => profileSize fields entries ≤ 66
  | _ => true

end Instr

end Sys2Proof
end

