-- ==== Sys2Proof/Decode.lean ====
section
/-! DEFINITION. Words and frames. spec/opcode_table.json gives no row any bits, so no word spells a command
(`decodeTableWord`). What the part itself decodes is a request frame: `decodeFrame` reads the parameters of a
taken frame by the conventions and the request code table of R196, and `frameOf` writes the frame of a request. -/

namespace Sys2Proof

/-- The command a word spells by the table's bits. The table gives no row bits, so a word spells none. -/
def decodeTableWord (_nbits _w : Nat) : Option Instr := none

/-- Two bytes of a frame, most significant first (R196). -/
def joinHalf (hi lo : Byte) : Half := hi ++ lo

/-- Four bytes of a frame, most significant first (R196). -/
def joinQuad (b3 b2 b1 b0 : Byte) : Quad := (joinHalf b3 b2) ++ (joinHalf b1 b0)

/-- The bytes of a two-byte field, most significant first (R196). -/
def halfBytes (x : Half) : List Byte := [x.extractLsb' 8 8, x.extractLsb' 0 8]

/-- The bytes of a four-byte field, most significant first (R196). -/
def quadBytes (x : Quad) : List Byte :=
  [x.extractLsb' 24 8, x.extractLsb' 16 8, x.extractLsb' 8 8, x.extractLsb' 0 8]

/-- Bit n of a presence byte (R196). -/
def carries (presence : Byte) (n : Nat) : Bool := presence.toNat.testBit n

/-- Read one optional byte: absent when its presence bit is clear (R196). -/
def readByte? (present : Bool) (bytes : List Byte) : Option (Option Byte × List Byte) :=
  if present then
    match bytes with
    | b :: rest => some (some b, rest)
    | [] => none
  else some (none, bytes)

/-- Read one optional two-byte integer (R196). -/
def readHalf? (present : Bool) (bytes : List Byte) : Option (Option Half × List Byte) :=
  if present then
    match bytes with
    | hi :: lo :: rest => some (some (joinHalf hi lo), rest)
    | _ => none
  else some (none, bytes)

/-- One command entry of a SET_STORE_PROFILE, with what follows it (R196): a presence bit beyond the six fields
makes the length not fit. -/
def readEntry? (bytes : List Byte) : Option (ProfileEntry × List Byte) :=
  match bytes with
  | kind :: presence :: rest =>
    if 64 ≤ presence.toNat then none
    else do
      let (code, rest) ← readByte? (carries presence 0) rest
      let (commandLanes, rest) ← readByte? (carries presence 1) rest
      let (addressLanes, rest) ← readByte? (carries presence 2) rest
      let (dataLanes, rest) ← readByte? (carries presence 3) rest
      let (addressBytes, rest) ← readByte? (carries presence 4) rest
      let (dummyCycles, rest) ← readByte? (carries presence 5) rest
      some (⟨kind, code, commandLanes, addressLanes, dataLanes, addressBytes, dummyCycles⟩, rest)
  | _ => none

/-- The command entries that fill the rest of a SET_STORE_PROFILE; `fuel` bounds their number. -/
def readEntries? : Nat → List Byte → Option (List ProfileEntry)
  | _, [] => some []
  | 0, _ :: _ => none
  | fuel + 1, bytes => do
    let (e, rest) ← readEntry? bytes
    let es ← readEntries? fuel rest
    some (e :: es)

/-- The parameters of a SET_STORE_PROFILE (R196), or none where the length does not fit. -/
def readProfile? (bytes : List Byte) : Option (ProfileFields × List ProfileEntry) :=
  match bytes with
  | presence :: rest =>
    if 128 ≤ presence.toNat then none
    else do
      let (divider, rest) ← readByte? (carries presence 0) rest
      let (busyBit, rest) ← readByte? (carries presence 1) rest
      let (busyPolarity, rest) ← readByte? (carries presence 2) rest
      let (pollInterval, rest) ← readHalf? (carries presence 3) rest
      let (programTimeout, rest) ← readHalf? (carries presence 4) rest
      let (sectorTimeout, rest) ← readHalf? (carries presence 5) rest
      let (blockTimeout, rest) ← readHalf? (carries presence 6) rest
      let entries ← readEntries? rest.length rest
      some (⟨divider, busyBit, busyPolarity, pollInterval, programTimeout, sectorTimeout, blockTimeout⟩, entries)
  | [] => none

/-- The five optional fields of a SET_ENHANCE (R69, R196), or none where the length does not fit. -/
def readEnhance? (bytes : List Byte) :
    Option (Option Byte × Option Byte × Option Byte × Option Byte × Option Byte) :=
  match bytes with
  | presence :: rest =>
    if 32 ≤ presence.toNat then none
    else do
      let (flatten, rest) ← readByte? (carries presence 0) rest
      let (sharpen, rest) ← readByte? (carries presence 1) rest
      let (core, rest) ← readByte? (carries presence 2) rest
      let (threshold, rest) ← readByte? (carries presence 3) rest
      let (floor, rest) ← readByte? (carries presence 4) rest
      if rest.isEmpty then some (flatten, sharpen, core, threshold, floor) else none
  | [] => none

/-- A presence byte of one optional two-byte field after `lead` fixed bytes' worth of parameters: FOCUS_AUTO's
field (R108, R196). -/
def readFocusAuto? (bytes : List Byte) : Option (Option Half) :=
  match bytes with
  | presence :: rest =>
    if 2 ≤ presence.toNat then none
    else do
      let (threshold, rest) ← readHalf? (carries presence 0) rest
      if rest.isEmpty then some threshold else none
  | [] => none

/-- SET_IDLE's timeout and optional wake threshold (R123, R196). -/
def readIdle? (bytes : List Byte) : Option (Half × Option Half) :=
  match bytes with
  | presence :: hi :: lo :: rest =>
    if 2 ≤ presence.toNat then none
    else do
      let (wakeThreshold, rest) ← readHalf? (carries presence 0) rest
      if rest.isEmpty then some (joinHalf hi lo, wakeThreshold) else none
  | _ => none

/-- The request of a frame whose code is known and whose length fits (R187, R196). -/
def decodeRequest? (p : PortId) (code : Byte) (params : List Byte) : Option Instr :=
  match code.toNat with
  | 0x01 => if params.isEmpty then some (.status p) else none
  | 0x02 => if params.isEmpty then some (.nextNotice p) else none
  | 0x03 => match params with
    | [mark] => some (.setAttentionMark p mark)
    | _ => none
  | 0x04 => if params.isEmpty then some (.resetDevice p) else none
  | 0x05 => if params.isEmpty then some (.wake p) else none
  | 0x10 => match params with
    | [z1, z0, x1, x0, y1, y0] => some (.setView p (joinHalf z1 z0) (joinHalf x1 x0) (joinHalf y1 y0))
    | _ => none
  | 0x11 => match params with
    | [z1, z0, x1, x0, y1, y0] => some (.nudgeView p (joinHalf z1 z0) (joinHalf x1 x0) (joinHalf y1 y0))
    | _ => none
  | 0x12 => match params with
    | [r1, r0] => some (.setGlide p (joinHalf r1 r0))
    | _ => none
  | 0x13 => if params.isEmpty then some (.getView p) else none
  | 0x18 => (readEnhance? params).map fun (f, s, c, t, fl) => .setEnhance p f s c t fl
  | 0x19 => if params.isEmpty then some (.getEnhance p) else none
  | 0x1A => match params with
    | s1 :: s0 :: v :: vs => if vs.length < 64 then some (.loadTone p (joinHalf s1 s0) (v :: vs)) else none
    | _ => none
  | 0x1B => match params with
    | v :: vs => if vs.length < 64 then some (.loadToneNext p (v :: vs)) else none
    | [] => none
  | 0x1C => if params.isEmpty then some (.commitTone p) else none
  | 0x1D => match params with
    | [bank, s1, s0, count] => some (.getTone p bank (joinHalf s1 s0) count)
    | _ => none
  | 0x20 => match params with
    | [pm, tm] => some (.setOutput p pm tm)
    | _ => none
  | 0x21 => if params.isEmpty then some (.getOutput p) else none
  | 0x22 => if params.isEmpty then some (.freeze p) else none
  | 0x23 => if params.isEmpty then some (.showLive p) else none
  | 0x24 => if params.isEmpty then some (.releaseFreeze p) else none
  | 0x25 => if params.isEmpty then some (.showPage p) else none
  | 0x26 => match params with
    | [r] => some (.split p r)
    | _ => none
  | 0x28 => match params with
    | [sec, item, src] => some (.getScene p sec item src)
    | _ => none
  | 0x29 => match params with
    | [d] => some (.setMotionDelta p d)
    | _ => none
  | 0x30 => (readFocusAuto? params).map fun t => .focusAuto p t
  | 0x31 => match params with
    | [p1, p0] => some (.focusManual p (joinHalf p1 p0))
    | _ => none
  | 0x32 => match params with
    | [a] => some (.setFocusLink p a)
    | _ => none
  | 0x33 => if params.isEmpty then some (.getFocus p) else none
  | 0x38 => match params with
    | [l1, l0] => some (.setLamp p (joinHalf l1 l0))
    | _ => none
  | 0x39 => (readIdle? params).map fun (t, w) => .setIdle p t w
  | 0x40 => (readProfile? params).map fun (f, es) => .setStoreProfile p f es
  | 0x41 => if params.isEmpty then some (.getStoreProfile p) else none
  | 0x48 => if params.isEmpty then some (.mount p) else none
  | 0x49 => if params.isEmpty then some (.unmount p) else none
  | 0x4A => if params.isEmpty then some (.storeStatus p) else none
  | 0x4B => if params.length ≤ 62 then some (.newLesson p params) else none
  | 0x4C => match params with
    | [l] => some (.selectLesson p l)
    | _ => none
  | 0x4D => match params with
    | [l, f] => some (.setLessonLock p l f)
    | _ => none
  | 0x4E => match params with
    | [g1, g0] => some (.deletePage p (joinHalf g1 g0))
    | _ => none
  | 0x4F => match params with
    | [l] => some (.wipeLesson p l)
    | _ => none
  | 0x50 => match params with
    | [l] => some (.listLessons p l)
    | _ => none
  | 0x51 => match params with
    | [l, s1, s0] => some (.listPages p l (joinHalf s1 s0))
    | _ => none
  | 0x58 => match params with
    | [m] => some (.savePage p m)
    | _ => none
  | 0x59 => match params with
    | [g1, g0, d] => some (.recallPage p (joinHalf g1 g0) d)
    | _ => none
  | 0x5A => match params with
    | [g1, g0, o3, o2, o1, o0, l1, l0] =>
      some (.readPageData p (joinHalf g1 g0) (joinQuad o3 o2 o1 o0) (joinHalf l1 l0))
    | _ => none
  | _ => none

/-- The request a taken frame is (R187): the request of its code, or BAD_REQUEST where the code is unknown or
the length does not fit. -/
def decodeFrame (p : PortId) (f : Frame) : Instr :=
  (decodeRequest? p f.code f.params).getD (.badRequest p f.code f.params)

/-- A presence byte: bit n set when the n-th optional field is carried (R196). -/
def presenceByte (carried : List Bool) : Byte :=
  BitVec.ofNat 8 (carried.foldr (fun b n => (if b then 1 else 0) + 2 * n) 0)

/-- The bytes of an optional one-byte field: none where it is not carried. -/
def optionalByte (f : Option Byte) : List Byte := f.toList

/-- The bytes of an optional two-byte field: none where it is not carried. -/
def optionalHalf (f : Option Half) : List Byte := (f.map halfBytes).getD []

/-- The bytes of one command entry of SET_STORE_PROFILE (R196). -/
def entryBytes (e : ProfileEntry) : List Byte :=
  [e.kind, presenceByte [e.code.isSome, e.commandLanes.isSome, e.addressLanes.isSome, e.dataLanes.isSome,
      e.addressBytes.isSome, e.dummyCycles.isSome]] ++
    optionalByte e.code ++ optionalByte e.commandLanes ++ optionalByte e.addressLanes ++
    optionalByte e.dataLanes ++ optionalByte e.addressBytes ++ optionalByte e.dummyCycles

/-- The parameters of a SET_STORE_PROFILE (R196). -/
def profileBytes (f : ProfileFields) (entries : List ProfileEntry) : List Byte :=
  [presenceByte [f.divider.isSome, f.busyBit.isSome, f.busyPolarity.isSome, f.pollInterval.isSome,
      f.programTimeout.isSome, f.sectorTimeout.isSome, f.blockTimeout.isSome]] ++
    optionalByte f.divider ++ optionalByte f.busyBit ++ optionalByte f.busyPolarity ++
    optionalHalf f.pollInterval ++ optionalHalf f.programTimeout ++ optionalHalf f.sectorTimeout ++
    optionalHalf f.blockTimeout ++ entries.flatMap entryBytes

/-- The frame of a request (R186, R196), and none for a command that is no request. -/
def frameOf : Instr → Option (PortId × Frame)
  | .badRequest p code params => some (p, ⟨code, params⟩)
  | .status p => some (p, ⟨0x01, []⟩)
  | .nextNotice p => some (p, ⟨0x02, []⟩)
  | .setAttentionMark p mark => some (p, ⟨0x03, [mark]⟩)
  | .resetDevice p => some (p, ⟨0x04, []⟩)
  | .wake p => some (p, ⟨0x05, []⟩)
  | .setView p zoom qx qy => some (p, ⟨0x10, halfBytes zoom ++ halfBytes qx ++ halfBytes qy⟩)
  | .nudgeView p z dx dy => some (p, ⟨0x11, halfBytes z ++ halfBytes dx ++ halfBytes dy⟩)
  | .setGlide p rate => some (p, ⟨0x12, halfBytes rate⟩)
  | .getView p => some (p, ⟨0x13, []⟩)
  | .setEnhance p f s c t fl => some (p, ⟨0x18,
      [presenceByte [f.isSome, s.isSome, c.isSome, t.isSome, fl.isSome]] ++
        optionalByte f ++ optionalByte s ++ optionalByte c ++ optionalByte t ++ optionalByte fl⟩)
  | .getEnhance p => some (p, ⟨0x19, []⟩)
  | .loadTone p start values => some (p, ⟨0x1A, halfBytes start ++ values⟩)
  | .loadToneNext p values => some (p, ⟨0x1B, values⟩)
  | .commitTone p => some (p, ⟨0x1C, []⟩)
  | .getTone p bank start count => some (p, ⟨0x1D, [bank] ++ halfBytes start ++ [count]⟩)
  | .setOutput p pm tm => some (p, ⟨0x20, [pm, tm]⟩)
  | .getOutput p => some (p, ⟨0x21, []⟩)
  | .freeze p => some (p, ⟨0x22, []⟩)
  | .showLive p => some (p, ⟨0x23, []⟩)
  | .releaseFreeze p => some (p, ⟨0x24, []⟩)
  | .showPage p => some (p, ⟨0x25, []⟩)
  | .split p r => some (p, ⟨0x26, [r]⟩)
  | .getScene p sec item src => some (p, ⟨0x28, [sec, item, src]⟩)
  | .setMotionDelta p d => some (p, ⟨0x29, [d]⟩)
  | .focusAuto p t => some (p, ⟨0x30, [presenceByte [t.isSome]] ++ optionalHalf t⟩)
  | .focusManual p pos => some (p, ⟨0x31, halfBytes pos⟩)
  | .setFocusLink p a => some (p, ⟨0x32, [a]⟩)
  | .getFocus p => some (p, ⟨0x33, []⟩)
  | .setLamp p l => some (p, ⟨0x38, halfBytes l⟩)
  | .setIdle p t w => some (p, ⟨0x39, [presenceByte [w.isSome]] ++ halfBytes t ++ optionalHalf w⟩)
  | .setStoreProfile p f es => some (p, ⟨0x40, profileBytes f es⟩)
  | .getStoreProfile p => some (p, ⟨0x41, []⟩)
  | .mount p => some (p, ⟨0x48, []⟩)
  | .unmount p => some (p, ⟨0x49, []⟩)
  | .storeStatus p => some (p, ⟨0x4A, []⟩)
  | .newLesson p name => some (p, ⟨0x4B, name⟩)
  | .selectLesson p l => some (p, ⟨0x4C, [l]⟩)
  | .setLessonLock p l f => some (p, ⟨0x4D, [l, f]⟩)
  | .deletePage p g => some (p, ⟨0x4E, halfBytes g⟩)
  | .wipeLesson p l => some (p, ⟨0x4F, [l]⟩)
  | .listLessons p l => some (p, ⟨0x50, [l]⟩)
  | .listPages p l s => some (p, ⟨0x51, [l] ++ halfBytes s⟩)
  | .savePage p m => some (p, ⟨0x58, [m]⟩)
  | .recallPage p g d => some (p, ⟨0x59, halfBytes g ++ [d]⟩)
  | .readPageData p g o l => some (p, ⟨0x5A, halfBytes g ++ quadBytes o ++ halfBytes l⟩)
  | _ => none

end Sys2Proof
end

