-- ==== Sys2Proof/Machine/State.lean ====
section
/-! DEFINITION. The state of the part as plain data, block by block as 00_scope.md lists what each block holds,
and the state after power-on reset. -/

namespace Sys2Proof.Machine

/-! ## Frame memory, intake and frame slots (01_frame_memory_and_sensor_intake.md) -/

/-- Frame memory: address and byte pairs, addresses strictly rising, no entry equal to `Config.blankByte`. -/
abbrev Memory := List Host.Cell

/-- R2. -/
inductive IntakeState
  | noSignal
  | waitFrame
  | receiving
  deriving DecidableEq, Repr

/-- R9. `timer` is the moment the link-loss timer was last restarted, and none while it does not run. -/
structure Intake where
  state : IntakeState
  expected : Nat
  timer : Option Nat
  damaged : Nat
  concealed : Nat
  lastFrame : Option Nat
  deriving DecidableEq, Repr

/-- R10. -/
inductive SlotState
  | free
  | filling
  | ready
  | loading
  deriving DecidableEq, Repr

/-- R10. -/
inductive SlotKind
  | sensor
  | pageText
  | pagePhoto
  deriving DecidableEq, Repr

/-- The two page modes (R143, R169). -/
inductive PageMode
  | text
  | photo
  deriving DecidableEq, Repr

/-- R15: the holder set of a slot, one mark for each holder kind. -/
structure Holders where
  scanP : Bool := false
  scanT : Bool := false
  freeze : Bool := false
  page : Bool := false
  saveA : Bool := false
  saveB : Bool := false
  deriving DecidableEq, Repr

/-- R24, R25: the mean, white and detail of one tile. -/
structure TileStat where
  mean : Nat
  white : Nat
  detail : Nat
  deriving DecidableEq, Repr

/-- R10: a slot record; the index is the record's place in the table. -/
structure Slot where
  state : SlotState := .free
  kind : Option SlotKind := none
  frame : Option Nat := none
  page : Option Nat := none
  seq : Option Nat := none
  concealed : Option Nat := none
  stats : Option (List TileStat) := none
  holders : Holders := {}
  deriving DecidableEq, Repr

/-- The slot table and the publish counter (R10, R12). -/
structure FrameStore where
  slots : Vector Slot 10
  counter : Nat
  deriving DecidableEq, Repr

/-! ## Scene statistics (02_scene_statistics_and_the_paper_map.md) -/

/-- R23: the running sums of one tile. -/
structure TileSums where
  sum : Nat
  blocks : List Nat
  detail : Nat
  deriving DecidableEq, Repr

/-- The paper map and the statistics state (R23, R28 to R37). `focus` holds the last focus measure and its
number of tiles. -/
structure Statistics where
  acc : Option (List TileSums)
  prev : Option (List Nat)
  map : List Nat
  floor : Nat
  delta : Nat
  motion : Option Nat
  reseed : Bool
  focus : Option (Nat × Nat)
  deriving DecidableEq, Repr

/-! ## The view (03_the_view.md) -/

/-- R38: a view record; its geometry is fixed for LIVE and held in `Views.geom` for PAGE. -/
structure ViewRecord where
  zt : Nat
  zc : Nat
  qx : Nat
  qy : Nat
  deriving DecidableEq, Repr

/-- R38: the two view records, the PAGE geometry and the glide rate. -/
structure Views where
  live : ViewRecord
  page : ViewRecord
  geom : Option PageMode
  glide : Nat
  deriving DecidableEq, Repr

/-- R40, R41: a window with the effective centre it was placed by. -/
structure Window where
  x0 : Nat
  y0 : Nat
  w : Nat
  h : Nat
  cx : Nat
  cy : Nat
  deriving DecidableEq, Repr

/-! ## Render settings (04_render_arithmetic.md) -/

/-- R68: the enhancement record. -/
structure Enhance where
  flatten : Bool
  sharpen : Nat
  core : Nat
  threshold : Nat
  deriving DecidableEq, Repr

/-- R68, R71, R73: the enhancement record, the two tone banks and the pending mark. -/
structure RenderSettings where
  enh : Enhance
  active : List Byte
  staging : List Byte
  swap : Bool
  deriving DecidableEq, Repr

/-! ## The output pipes and display control (05_projector_and_tap_outputs.md) -/

/-- R75. -/
inductive ProjectorMode
  | p720
  | p1080
  | p2160
  deriving DecidableEq, Repr

/-- R75. -/
inductive TapMode
  | off
  | t720
  | t1080
  deriving DecidableEq, Repr

/-- R79. -/
inductive FrameKind
  | normal
  | black
  | skipped
  | none
  deriving DecidableEq, Repr

/-- R86. -/
inductive DisplayMode
  | live
  | frozen
  | page
  | split
  deriving DecidableEq, Repr

/-- R86. -/
inductive SplitRef
  | freeze
  | page
  deriving DecidableEq, Repr

/-- R45, R79: the view values a pipe latches for one raster: the kind names the source geometry. -/
structure ViewLatch where
  zc : Nat
  qx : Nat
  qy : Nat
  kind : SlotKind
  window : Window
  deriving DecidableEq, Repr

/-- R79: a pipe's latched frame context. `marks` is the model's own (log 7): the paper maps the frame has left
behind, each with the number of pixels computed by then. -/
structure Context where
  kind : FrameKind := .none
  mode : Option DisplayMode := none
  ref : Option SplitRef := none
  live : Option Nat := none
  reference : Option Nat := none
  liveView : Option ViewLatch := none
  refView : Option ViewLatch := none
  enh : Option Enhance := none
  tone : Option (List Byte) := none
  blackWhole : Bool := false
  blackLive : Bool := false
  blackRef : Bool := false
  marks : List (Nat × List Nat) := []
  deriving DecidableEq, Repr

/-- R75, R79: a pipe's applied and pending output mode and its context. -/
structure Pipe (Mode : Type) where
  applied : Mode
  pending : Option Mode
  ctx : Context
  deriving DecidableEq, Repr

/-- R86: the display-control record. -/
structure Display where
  mode : DisplayMode
  ref : Option SplitRef
  deriving DecidableEq, Repr

/-- The levels of the three inputs the part samples (R94, R95, R116). -/
structure Inputs where
  projectorPresent : Bool
  tapReady : Bool
  lampFault : Bool
  deriving DecidableEq, Repr

/-! ## Focus (06_focus.md) -/

/-- R98. -/
inductive FocusMode
  | auto
  | manual
  deriving DecidableEq, Repr

/-- R98: the phase of a search. -/
inductive SearchPhase
  | coarse
  | fine
  deriving DecidableEq, Repr

/-- R98, R102: the search record, with the settle count that is present with it. -/
structure Search where
  phase : SearchPhase
  up : Bool
  steps : Nat
  reversed : Bool
  bestMeasure : Option Nat
  bestPos : Nat
  fineList : List Nat
  fineIndex : Nat
  fineMeasures : List Nat
  width : Nat
  settle : Nat
  deriving DecidableEq, Repr

/-- R98, R105, R106: the lock record and the motion watch. -/
structure Lock where
  pos : Nat
  width : Nat
  motionSeen : Bool
  quiet : Nat
  deriving DecidableEq, Repr

/-- R98, R101: the focus state, each carrying the records that are present in it. COARSE and FINE are the two
phases of a search. -/
inductive FocusState
  | search (r : Search)
  | locked (l : Lock)
  | parked
  | held
  | fault
  deriving DecidableEq, Repr

/-- R98, R99: a lens transaction in flight: its position, attempt and the address it started with (R110). -/
structure LensMove where
  pos : Nat
  attempt : Nat
  addr : Nat
  deriving DecidableEq, Repr

/-- R98. The link is IDLE when `link` is none. `last` is the last measure and motion count delivered (R111). -/
structure Focus where
  mode : FocusMode
  state : FocusState
  lensPos : Nat
  link : Option LensMove
  wanted : Option Nat
  addr : Nat
  threshold : Nat
  owed : Bool
  last : Option (Nat × Nat)
  deriving DecidableEq, Repr

/-! ## Lamp and idle (07_lamp_and_idle.md) -/

/-- R114 to R118. `minuteFrom` is the moment the minute interval was last restarted. -/
structure LampIdle where
  level : Nat
  duty : Nat
  latch : Bool
  doze : Bool
  timeout : Nat
  wakeThreshold : Nat
  minutes : Nat
  minuteFrom : Nat
  hold : Bool
  deriving DecidableEq, Repr

/-! ## Store sequencer (08_store_bus_and_flash_sequencer.md) -/

/-- R127: the command kinds. -/
inductive CommandKind
  | read
  | program
  | writeEnable
  | status
  | sectorErase
  | blockErase
  | idRead
  deriving DecidableEq, Repr

/-- R127: the profile's entry for one command kind. -/
structure CommandEntry where
  code : Byte
  commandLanes : Nat
  addressLanes : Nat
  dataLanes : Nat
  addressBytes : Nat
  dummyCycles : Nat
  deriving DecidableEq, Repr

/-- R127: the flash profile; the poll interval is in µs, the timeouts in ms. -/
structure Profile where
  divider : Nat
  read : CommandEntry
  program : CommandEntry
  writeEnable : CommandEntry
  status : CommandEntry
  sectorErase : CommandEntry
  blockErase : CommandEntry
  idRead : CommandEntry
  busyBit : Nat
  busyPolarity : Nat
  pollInterval : Nat
  programTimeout : Nat
  sectorTimeout : Nat
  blockTimeout : Nat
  deriving DecidableEq, Repr

/-- R138: the clients of the store bus. -/
inductive Client
  | mount
  | writer
  | recallReader
  | direct (p : PortId)
  | save
  | blank
  | reclaim
  deriving DecidableEq, Repr

/-- R131. -/
inductive Outstanding
  | program
  | sectorErase
  | blockErase
  | carried
  deriving DecidableEq, Repr

/-- R131. -/
inductive FaultCause
  | timeoutNoFinish
  | idChanged
  | carryOver
  deriving DecidableEq, Repr

/-- R131: the fields of a device record in BUSY. `client` is who waits for the completion, and `addr` the
operation's address (R135); `late` is the late deadline, present while the late flag is set. Times are in µs. -/
structure BusyRecord where
  kind : Outstanding
  client : Option Client
  addr : Nat
  start : Nat
  deadline : Nat
  late : Option Nat
  nextPoll : Option Nat
  recheck : Bool
  deriving DecidableEq, Repr

/-- R131: a device's state with the fields present in it. -/
inductive DeviceState
  | absent
  | ready
  | busy (b : BusyRecord)
  | faulted (cause : FaultCause) (unfinished : Bool)
  deriving DecidableEq, Repr

/-- R131. -/
structure Device where
  state : DeviceState
  refId : Option (Byte × Byte × Byte)
  deriving DecidableEq, Repr

/-- R129, R138: what a client presents. A probe of the mount scanner becomes an ID read or a status poll when
it is granted (R137). -/
inductive OpKind
  | probe
  | read (length : Nat)
  | program (bytes : List Byte)
  | sectorErase
  | blockErase
  deriving DecidableEq, Repr

/-- R126, R138: an operation names its device and an address on it. -/
structure BusOp where
  dev : DevId
  kind : OpKind
  addr : Nat
  deriving DecidableEq, Repr

/-- R138: an operation that waits for the bus. -/
structure WaitingOp where
  client : Client
  op : BusOp
  deriving DecidableEq, Repr

/-- R139: an operation of rank 0 that is due: a status poll, or the ID recheck. -/
structure DueOp where
  dev : DevId
  recheck : Bool
  deriving DecidableEq, Repr

/-- R138: what ends an operation. -/
inductive OpResult
  | done (bytes : List Byte)
  | timeout
  | deviceFault
  deriving DecidableEq, Repr

/-- Who was granted the bus: rank 0 for a device, or a client (R139). -/
inductive BusUser
  | poll
  | recheck
  | client (c : Client)
  deriving DecidableEq, Repr

/-- R129: what runs on the bus. -/
inductive RunKind
  | statusPoll
  | idRead
  | read (length : Nat)
  | program
  | sectorErase
  | blockErase
  deriving DecidableEq, Repr

/-- R130: one command as it is sent: the code and address bytes, the lanes of each phase, the dummy cycles, the
bytes sent, and how many bytes are received. -/
structure SentCommand where
  code : Byte
  address : List Byte
  dummyCycles : Nat
  send : List Byte
  receive : Nat
  commandLanes : Nat
  addressLanes : Nat
  dataLanes : Nat
  deriving DecidableEq, Repr

/-- The operation on the bus. `wanted` is clear once its client no longer wants the result (R138). -/
structure Running where
  user : BusUser
  dev : DevId
  kind : RunKind
  addr : Nat
  sent : List SentCommand
  wanted : Bool
  deriving DecidableEq, Repr

/-- The store sequencer (R127, R131, R138 to R140). `results` is the model's own: results on their way to their
clients inside one event, and empty between events. -/
structure Sequencer where
  profile : Profile
  d0 : Device
  d1 : Device
  bus : Option Running
  due : List DueOp
  waiting : List WaitingOp
  lastDirect : PortId
  results : List (Client × OpResult)
  deriving DecidableEq, Repr

/-! ## The catalogue (09_the_catalogue_lessons_pages_and_blocks.md) -/

/-- R150. -/
inductive StoreState
  | unmounted
  | mounting
  | mounted
  deriving DecidableEq, Repr

/-- R150. -/
inductive MountResult
  | none
  | mounted
  | noStore
  | deviceFault
  deriving DecidableEq, Repr

/-- R151: where the mount scanner stands: at a device probe, or at a record area (0 to 63 the lessons, 64 to
1087 the pages). -/
inductive MountStage
  | probe (d : DevId)
  | area (n : Nat)
  deriving DecidableEq, Repr

/-- R150, R151. -/
structure Mount where
  stage : MountStage
  requester : Option PortId
  deriving DecidableEq, Repr

/-- R146. -/
inductive LessonState
  | empty
  | live
  | rewriting
  | wiped
  deriving DecidableEq, Repr

/-- R146: an entry of the lesson table. -/
structure Lesson where
  state : LessonState := .empty
  name : List Byte := []
  lock : Bool := false
  count : Nat := 0
  deferred : Bool := false
  deriving DecidableEq, Repr

/-- R147. -/
inductive PageState
  | empty
  | writing
  | stored
  | retiring
  | retired
  | bad
  deriving DecidableEq, Repr

/-- R147. -/
inductive RetireMark
  | none
  | pending
  | done
  deriving DecidableEq, Repr

/-- R147, R175: the captured view and enhancement record as the page record body holds them. -/
structure Captured where
  kind : Byte := 0
  zc : Half := 0
  cx : Half := 0
  cy : Half := 0
  flatten : Byte := 0
  sharpen : Byte := 0
  core : Byte := 0
  threshold : Byte := 0
  deriving DecidableEq, Repr

/-- R147: an entry of the page table. -/
structure Page where
  state : PageState := .empty
  lesson : Nat := 0
  seq : Nat := 0
  mode : PageMode := .text
  blocks : List Nat := []
  saveSeq : Nat := 0
  captured : Captured := {}
  pins : Nat := 0
  mark : RetireMark := .none
  deriving DecidableEq, Repr

/-- R149. -/
inductive BlockState
  | free
  | unknown
  | used
  | dirty
  | erasing
  | bad
  deriving DecidableEq, Repr

/-- R145: what a task writes. A lesson rewrite made for a lock change keeps its requester and the flag the
lesson had (R162); one made by lesson recovery has none. A page retire that belongs to a wipe names the lesson,
and the lesson retire keeps the first result of the wipe that was not DONE (R164). -/
inductive TaskKind
  | lessonCreate (lesson : Nat) (requester : PortId)
  | lessonRewrite (lesson : Nat) (change : Option (PortId × Bool))
  | pageRetire (page : Nat) (wipe : Option Nat)
  | lessonRetire (lesson : Nat) (requester : PortId) (first : Option OpResult)
  | pageCommit (page : Nat)
  deriving DecidableEq, Repr

/-- R145: the operations of a task. -/
inductive TaskStage
  | erase
  | body
  | commit
  | retire
  deriving DecidableEq, Repr

/-- R145, R146: a task, the operation it stands at, and whether a program of it has been granted. -/
structure Task where
  kind : TaskKind
  stage : TaskStage
  granted : Bool
  deriving DecidableEq, Repr

/-- R159: what the reclaimer erases. -/
inductive ReclaimItem
  | sector (n : Nat)
  | block (g : Nat)
  deriving DecidableEq, Repr

/-- R156, R157: the allocation in progress for the save writer. -/
inductive Allocation
  | idle
  | checking (block : Nat) (read : Nat)
  | waiting
  deriving DecidableEq, Repr

/-- The catalogue (R143, R145 to R159). -/
structure Catalogue where
  store : StoreState
  lastMount : MountResult
  mount : Option Mount
  present0 : Bool
  present1 : Bool
  lessons : Vector Lesson 64
  pages : Vector Page 1024
  blocks : Vector (Option BlockState) 8192
  cursor : Option Nat
  reserved : Option Nat
  saveSeq : Option Nat
  tasks : List Task
  reclaim : Option ReclaimItem
  alloc : Allocation
  deriving DecidableEq, Repr

/-! ## Saving and recalling (10_saving_and_recalling_pages.md) -/

/-- R169. -/
inductive JobState
  | pending
  | rendering
  | writing
  | committing
  deriving DecidableEq, Repr

/-- R20: the two save holders. -/
inductive SaveHolder
  | saveA
  | saveB
  deriving DecidableEq, Repr

/-- R53: the view a save job captures. -/
structure SavedView where
  kind : SlotKind
  zc : Nat
  cx : Nat
  cy : Nat
  deriving DecidableEq, Repr

/-- R169: a save job. `marks` is the model's own (log 7): the paper maps the running render has left behind, each
with the number of pixels computed by then. -/
structure Job where
  state : JobState
  requester : PortId
  lesson : Nat
  page : Nat
  seq : Nat
  saveSeq : Nat
  mode : PageMode
  source : Option (Nat × SaveHolder)
  view : SavedView
  enh : Enhance
  tone : List Byte
  buffer : Option Nat
  blocks : List Nat
  done : Nat
  nextPage : Nat
  relocations : Nat
  remaining : Nat
  marks : List (Nat × List Nat)
  deriving DecidableEq, Repr

/-- R178: the recall record; `next` counts the pieces of R179 from the start of the image. Its read is waiting or
on the bus as `Sequencer` says. -/
structure Recall where
  page : Nat
  mode : PageMode
  blocks : List Nat
  requester : PortId
  display : Bool
  slot : Nat
  next : Nat
  deriving DecidableEq, Repr

/-- R169, R178. -/
structure SaveRecall where
  jobs : List Job
  recalling : Option Recall
  deriving DecidableEq, Repr

/-! ## Control ports (11_control_ports.md) -/

/-- R196: the answer status codes. -/
inductive Status
  | empty
  | ok
  | accepted
  | none
  | badRequest
  | badParam
  | busy
  | notMounted
  | notReady
  | already
  | noFrame
  | noPage
  | noLesson
  | noSuchPage
  | noSuchLesson
  | lessonLocked
  | lessonFull
  | catalogueFull
  | storeFull
  deriving DecidableEq, Repr

/-- R188: an answer: status, request code echoed, data. -/
structure Answer where
  status : Status
  code : Byte
  data : List Byte
  deriving DecidableEq, Repr

/-- R196: the notice kinds. -/
inductive NoticeKind
  | deviceReset
  | viewChanged
  | enhanceChanged
  | displayChanged
  | outputChanged
  | toneCommitted
  | intakeState
  | projectorState
  | focusState
  | lampState
  | storeState
  | storeFault
  | saveDone
  | saveFailed
  | recallDone
  | recallFailed
  | recallSuperseded
  | lessonChanged
  | catalogueChanged
  | idleState
  deriving DecidableEq, Repr

/-- R189, R196: a notice: its kind and contents. -/
structure Notice where
  kind : NoticeKind
  contents : List Byte
  deriving DecidableEq, Repr

/-- R182, R192: a direct-read record, with the bytes of a first part already read. -/
structure DirectRead where
  page : Nat
  offset : Nat
  length : Nat
  got : List Byte
  deriving DecidableEq, Repr

/-- R185: what the first byte of a transaction asks for. -/
inductive TransactionKind
  | poll
  | send
  | fetch
  | unknown
  deriving DecidableEq, Repr

/-- R185 to R188, R193: a transaction whose chip select has not risen yet. `received` holds the bytes a SEND_REQUEST
has shifted in, and `left` what a FETCH_ANSWER still has to shift out of its frame; `held` says that this frame is the
oldest answer, which has not left the queue; `count` is the number of bytes after the first, and `cut` is set once a
reset has cut the transaction off. -/
structure Transaction where
  kind : TransactionKind
  received : List Byte := []
  left : List Byte := []
  held : Bool := false
  count : Nat := 0
  cut : Bool := false
  deriving DecidableEq, Repr

/-- R185 to R193: a control port. `busyFrom` is the moment the 2 ms interval began, none while it does not run;
`resetInput` is the level of the port-reset input, and `transfer` the transaction in progress. -/
structure Port where
  requests : List Frame
  answers : List Answer
  notices : List Notice
  lost : Bool
  discarded : Nat
  mark : Nat
  lesson : Option Nat
  tone : Nat
  direct : Option DirectRead
  busy : Bool
  busyFrom : Option Nat
  resetInput : Bool
  transfer : Option Transaction
  deriving DecidableEq, Repr

/-- Why the part stops. -/
inductive Fault
  /-- The choice of R14 finds no slot to take, for a sensor frame start or a recall. R21 rules it out in every
  run. Raised by FRAME_START_PACKET and RECALL_PAGE (also taken from a request queue); safe: the model stops. -/
  | noFrameSlot
  deriving DecidableEq, Repr

/-- Why a command is refused. -/
inductive Refusal
  /-- Raised by `exec` for a command that has no meaning yet; safe: the model stops. -/
  | notModelled (mnemonic : String)
  deriving DecidableEq, Repr

/-- The whole part. `pending` is the queue of waiting commands, `now` the model's clock in µs (log 4), `choices`
the counter free values are read with (log 7), `out0` to `out2` the bytes each port has shifted out in its last
transaction (log 14); everything else is the state the manual gives the part. -/
structure State where
  pending : List Instr
  now : Nat
  choices : Nat
  inputs : Inputs
  mem : Memory
  sin : Intake
  fst : FrameStore
  sst : Statistics
  vwc : Views
  ren : RenderSettings
  opp : Pipe ProjectorMode
  opt : Pipe TapMode
  disp : Display
  skipped : Nat
  foc : Focus
  liu : LampIdle
  ssq : Sequencer
  cat : Catalogue
  sre : SaveRecall
  cp0 : Port
  cp1 : Port
  cp2 : Port
  out0 : List Byte
  out1 : List Byte
  out2 : List Byte
  deriving DecidableEq, Repr

/-! ## The state after power-on reset -/

/-- The intake after a reset taken at a moment (R9). -/
def Intake.reset (now : Nat) : Intake :=
  { state := .waitFrame, expected := 0, timer := some now, damaged := 0, concealed := 0, lastFrame := none }

/-- R22. -/
def FrameStore.reset : FrameStore := { slots := Vector.replicate 10 {}, counter := 0 }

/-- R37. -/
def Statistics.reset : Statistics :=
  { acc := none, prev := none, map := List.replicate 768 255, floor := 64, delta := 6, motion := none,
    reseed := true, focus := none }

/-- R55. -/
def Views.reset : Views :=
  { live := { zt := 100, zc := 100, qx := 2048, qy := 1536 }, page := { zt := 100, zc := 100, qx := 0, qy := 0 },
    geom := none, glide := 10 }

/-- The identity tone bank (R74). -/
def identityTone : List Byte := (List.range 256).map (BitVec.ofNat 8)

/-- R68, R74. -/
def RenderSettings.reset : RenderSettings :=
  { enh := { flatten := true, sharpen := 8, core := 2, threshold := 128 }, active := identityTone,
    staging := identityTone, swap := false }

/-- R102, R113: the search a reset starts: from 512, direction +1. The LIVE view stands at zoom 100, where the
projector window is 4096 wide (R40). -/
def Search.reset : Search :=
  { phase := .coarse, up := true, steps := 0, reversed := false, bestMeasure := none, bestPos := 512,
    fineList := [], fineIndex := 0, fineMeasures := [], width := 4096, settle := 0 }

/-- R113. -/
def Focus.reset : Focus :=
  { mode := .auto, state := .search Search.reset, lensPos := 512, link := none, wanted := none, addr := 0x0C,
    threshold := 96, owed := true, last := none }

/-- R125. -/
def LampIdle.reset (now : Nat) : LampIdle :=
  { level := 0, duty := 0, latch := false, doze := false, timeout := 30, wakeThreshold := 24, minutes := 0,
    minuteFrom := now, hold := false }

/-- A profile entry with the default lanes and dummy cycles (R127). -/
def CommandEntry.plain (code : Byte) (addressBytes : Nat) : CommandEntry :=
  { code := code, commandLanes := 1, addressLanes := 1, dataLanes := 1, addressBytes := addressBytes,
    dummyCycles := 0 }

/-- R127: the defaults. -/
def Profile.reset : Profile :=
  { divider := 8, read := CommandEntry.plain 0x13 4, program := CommandEntry.plain 0x12 4,
    writeEnable := CommandEntry.plain 0x06 0, status := CommandEntry.plain 0x05 0,
    sectorErase := CommandEntry.plain 0x21 4, blockErase := CommandEntry.plain 0xDC 4,
    idRead := CommandEntry.plain 0x9F 0, busyBit := 0, busyPolarity := 1, pollInterval := 50,
    programTimeout := 5, sectorTimeout := 400, blockTimeout := 3000 }

/-- R136: a device after a reset taken at a moment, under the block erase timeout in ms. -/
def Device.carried (now blockTimeout : Nat) : Device :=
  { state := .busy
      { kind := .carried, client := none, addr := 0, start := now, deadline := now + blockTimeout * 1000,
        late := none, nextPoll := some now, recheck := false },
    refId := none }

/-- R142: the sequencer after a reset, under a profile. -/
def Sequencer.reset (now : Nat) (profile : Profile) : Sequencer :=
  { profile := profile, d0 := Device.carried now profile.blockTimeout,
    d1 := Device.carried now profile.blockTimeout, bus := none, due := [], waiting := [], lastDirect := .cp2,
    results := [] }

/-- R168: the catalogue with its tables cleared. -/
def Catalogue.reset : Catalogue :=
  { store := .unmounted, lastMount := .none, mount := none, present0 := false, present1 := false,
    lessons := Vector.replicate 64 {}, pages := Vector.replicate 1024 {}, blocks := Vector.replicate 8192 none,
    cursor := none, reserved := none, saveSeq := none, tasks := [], reclaim := none, alloc := .idle }

/-- R184. -/
def SaveRecall.reset : SaveRecall := { jobs := [], recalling := none }

/-- R193: a transaction that a reset cuts off: nothing of it is left to shift out or to arrive. -/
def Transaction.cutOff (t : Transaction) : Transaction := { t with left := [], held := false, cut := true }

/-- What stands at the pins of a port: the level of its reset input, and the transaction in progress. -/
structure PortPins where
  resetInput : Bool := false
  transfer : Option Transaction := none
  deriving DecidableEq, Repr

/-- The pins of a port. -/
def Port.pins (q : Port) : PortPins := { resetInput := q.resetInput, transfer := q.transfer }

/-- R192, R194: a port after a reset of the whole part, from what stands at its pins: empty queues but for the
DEVICE_RESET notice, the context at its reset values, the busy interval running, and a transaction in progress cut
off. -/
def Port.reset (now : Nat) (notice : Notice) (pins : PortPins) : Port :=
  { requests := [], answers := [], notices := [notice], lost := false, discarded := 0, mark := 0, lesson := none,
    tone := 0, direct := none, busy := true, busyFrom := if pins.resetInput then none else some now,
    resetInput := pins.resetInput, transfer := pins.transfer.map Transaction.cutOff }

/-- R194, R196: the DEVICE_RESET notice of cause POWER_ON. -/
def powerOnNotice : Notice := { kind := .deviceReset, contents := [0x10] }

/-- The part after power-on reset, at a moment, with the levels its inputs have, the frame memory as it stands and
what stands at the pins of the ports: every block at the values its chapter gives (R194). -/
def State.powerOn (now : Nat) (inputs : Inputs) (mem : Memory) (k0 k1 k2 : PortPins) : State :=
  { pending := [], now := now, choices := 0, inputs := inputs, mem := mem, sin := Intake.reset now,
    fst := FrameStore.reset, sst := Statistics.reset, vwc := Views.reset, ren := RenderSettings.reset,
    opp := { applied := .p1080, pending := none, ctx := {} }, opt := { applied := .off, pending := none, ctx := {} },
    disp := { mode := .live, ref := none }, skipped := 0, foc := Focus.reset, liu := LampIdle.reset now,
    ssq := Sequencer.reset now Profile.reset, cat := Catalogue.reset, sre := SaveRecall.reset,
    cp0 := Port.reset now powerOnNotice k0, cp1 := Port.reset now powerOnNotice k1,
    cp2 := Port.reset now powerOnNotice k2, out0 := [], out1 := [], out2 := [] }

/-- The machine right after power-on reset, with nothing in its queue. DESIGN CHOICE (log 10): the inputs are
low and inactive; the manual gives the pins no level. -/
def State.reset : State :=
  State.powerOn 0 { projectorPresent := false, tapReady := false, lampFault := false } [] {} {} {}

end Sys2Proof.Machine
end

