-- ==== Sys2Proof/Machine/Ops.lean ====
section
/-! DEFINITION. The shared operations: outcomes in sequence, the bytes of answers and notices (R196), frame memory,
access to the tables and records of State, and the placing of notices and answers at a port (R188, R189). -/

namespace Sys2Proof.Machine

/-! ## Outcomes -/

/-- What running a command answers. -/
abbrev Result := Host.Outcome State Fault Refusal

/-- Go on from a next state; a stop stays. -/
def andThen (r : Result) (f : State → Result) : Result :=
  match r with
  | .next s => f s
  | .fault e => .fault e
  | .refused e => .refused e

/-! ## Bytes of answers and notices (R196) -/

/-- A one-byte integer. -/
def u8 (n : Nat) : List Byte := [BitVec.ofNat 8 n]

/-- A two-byte integer, most significant byte first. -/
def u16 (n : Nat) : List Byte := [BitVec.ofNat 8 (n / 256), BitVec.ofNat 8 n]

/-- A four-byte integer, most significant byte first. -/
def u32 (n : Nat) : List Byte :=
  [BitVec.ofNat 8 (n / 16777216), BitVec.ofNat 8 (n / 65536), BitVec.ofNat 8 (n / 256), BitVec.ofNat 8 n]

/-- A signed one-byte integer, in two's complement. -/
def s8 (i : Int) : List Byte := u8 (i % 256).toNat

/-- A signed two-byte integer, in two's complement. -/
def s16 (i : Int) : List Byte := u16 (i % 65536).toNat

/-- A flag: 0 or 1. -/
def flagByte (b : Bool) : List Byte := [if b then 1 else 0]

/-- A field that may be absent: 1 and the field, or 0 alone. -/
def optionalField {α : Type} (write : α → List Byte) : Option α → List Byte
  | none => [0]
  | some a => 1 :: write a

/-- A name: a length byte and one byte per character. -/
def nameField (name : List Byte) : List Byte := u8 name.length ++ name

/-- A list of entries: a count byte and the entries. -/
def entryList {α : Type} (write : α → List Byte) (l : List α) : List Byte := u8 l.length ++ l.flatMap write

/-- A port's number as a cause or field (R196). -/
def portNumber : PortId → Nat
  | .cp0 => 0
  | .cp1 => 1
  | .cp2 => 2

/-- A device's number. -/
def devNumber : DevId → Nat
  | .d0 => 0
  | .d1 => 1

/-- The cause byte of a port (R196). -/
def portCause (p : PortId) : List Byte := u8 (portNumber p)

/-- The cause byte of the n-th named cause of a rule's list (R196). -/
def namedCause (n : Nat) : List Byte := u8 (0x10 + n)

/-! ## Frame memory -/

/-- What an address of frame memory holds (log 6 for one that nothing has written). -/
def memRead (m : Memory) (a : Nat) : Byte :=
  match m with
  | [] => Config.blankByte
  | c :: rest => if c.1 = a then c.2 else memRead rest a

/-- A run of bytes of frame memory. -/
def memReadRun (m : Memory) (a n : Nat) : List Byte := (List.range n).map fun i => memRead m (a + i)

/-- The entries a run of bytes needs: one for each byte that an unlisted address would not read as. -/
def memCells (a : Nat) : List Byte → Memory
  | [] => []
  | b :: rest => if b = Config.blankByte then memCells (a + 1) rest else (a, b) :: memCells (a + 1) rest

/-- Store a run of bytes from an address on. -/
def memWrite (m : Memory) (a : Nat) (bytes : List Byte) : Memory :=
  m.filter (fun c => c.1 < a) ++ memCells a bytes ++ m.filter (fun c => a + bytes.length ≤ c.1)

/-- Store several runs of bytes, in order. -/
def memWriteAll (m : Memory) (runs : List (Nat × List Byte)) : Memory :=
  runs.foldl (fun m w => memWrite m w.1 w.2) m

/-- The one form a frame memory has: addresses strictly rising, and no entry equal to what an unlisted address
reads as. -/
abbrev Memory.wf (m : Memory) : Prop :=
  m.Pairwise (fun a b => a.1 < b.1) ∧ ∀ c ∈ m, c.2 ≠ Config.blankByte

/-- Where slot n stands in frame memory (01_frame_memory_and_sensor_intake.md, region table). -/
def slotBase (n : Nat) : Nat := n * Config.slotBytes

/-- Where save buffer n stands in frame memory. -/
def saveBufferBase (n : Nat) : Nat := Config.bufferBase + n * Config.bufferBytes

/-! ## Records and tables of State -/

/-- Map a function over a table, keeping its length. -/
def tableMap {α β : Type} {n : Nat} (f : α → β) (v : Vector α n) : Vector β n :=
  ⟨⟨v.toList.map f⟩, by simp⟩

/-- A table from the value of each number. -/
def tableOf {α : Type} (n : Nat) (f : Nat → α) : Vector α n :=
  ⟨⟨(List.range n).map f⟩, by simp⟩

/-- A port of the part. -/
def State.port (s : State) : PortId → Port
  | .cp0 => s.cp0
  | .cp1 => s.cp1
  | .cp2 => s.cp2

/-- Replace a port. -/
def State.setPort (s : State) (p : PortId) (x : Port) : State :=
  match p with
  | .cp0 => { s with cp0 := x }
  | .cp1 => { s with cp1 := x }
  | .cp2 => { s with cp2 := x }

/-- Change a port. -/
def State.modPort (s : State) (p : PortId) (f : Port → Port) : State := s.setPort p (f (s.port p))

/-- A device record. -/
def Sequencer.device (q : Sequencer) : DevId → Device
  | .d0 => q.d0
  | .d1 => q.d1

/-- Replace a device record. -/
def Sequencer.setDevice (q : Sequencer) (d : DevId) (x : Device) : Sequencer :=
  match d with
  | .d0 => { q with d0 := x }
  | .d1 => { q with d1 := x }

/-- A device record of the part. -/
def State.device (s : State) (d : DevId) : Device := s.ssq.device d

/-- Change the store sequencer. -/
def State.modSsq (s : State) (f : Sequencer → Sequencer) : State := { s with ssq := f s.ssq }

/-- Replace a device record. -/
def State.setDevice (s : State) (d : DevId) (x : Device) : State := s.modSsq fun q => q.setDevice d x

/-- Change the catalogue. -/
def State.modCat (s : State) (f : Catalogue → Catalogue) : State := { s with cat := f s.cat }

/-- A frame slot; a number beyond 9 reads as a FREE slot and is never written. -/
def State.slot (s : State) (n : Nat) : Slot := (s.fst.slots[n]?).getD {}

/-- Replace a frame slot. -/
def State.setSlot (s : State) (n : Nat) (x : Slot) : State :=
  { s with fst := { s.fst with slots := s.fst.slots.setIfInBounds n x } }

/-- A lesson; a number beyond 63 reads as EMPTY and is never written. -/
def State.lesson (s : State) (n : Nat) : Lesson := (s.cat.lessons[n]?).getD {}

/-- Replace a lesson. -/
def State.setLesson (s : State) (n : Nat) (x : Lesson) : State :=
  s.modCat fun c => { c with lessons := c.lessons.setIfInBounds n x }

/-- A page; a number beyond 1023 reads as EMPTY and is never written. -/
def State.page (s : State) (n : Nat) : Page := (s.cat.pages[n]?).getD {}

/-- Replace a page. -/
def State.setPage (s : State) (n : Nat) (x : Page) : State :=
  s.modCat fun c => { c with pages := c.pages.setIfInBounds n x }

/-- A block's entry in the block map, none where it has none. -/
def State.block (s : State) (g : Nat) : Option BlockState := (s.cat.blocks[g]?).getD none

/-- Replace a block's entry. -/
def State.setBlock (s : State) (g : Nat) (x : Option BlockState) : State :=
  s.modCat fun c => { c with blocks := c.blocks.setIfInBounds g x }

/-- Put every listed block in one state. -/
def State.setBlocks (s : State) (gs : List Nat) (x : BlockState) : State :=
  gs.foldl (fun s g => s.setBlock g (some x)) s

/-- Move the clock on to a moment; it never goes back (log 4). -/
def State.clockTo (s : State) (moment : Nat) : State := { s with now := max s.now moment }

/-- The numbers of the frame slots. -/
def slotNumbers : List Nat := List.range 10

/-- The numbers of the lessons. -/
def lessonNumbers : List Nat := List.range 64

/-- The numbers of the pages. -/
def pageNumbers : List Nat := List.range 1024

/-! ## Answers and notices at a port -/

/-- R196: the status values. -/
def Status.value : Status → Nat
  | .empty => 0x00
  | .ok => 0x01
  | .accepted => 0x02
  | .none => 0x03
  | .badRequest => 0x10
  | .badParam => 0x11
  | .busy => 0x12
  | .notMounted => 0x13
  | .notReady => 0x14
  | .already => 0x15
  | .noFrame => 0x16
  | .noPage => 0x17
  | .noLesson => 0x18
  | .noSuchPage => 0x19
  | .noSuchLesson => 0x1A
  | .lessonLocked => 0x1B
  | .lessonFull => 0x1C
  | .catalogueFull => 0x1D
  | .storeFull => 0x1E

/-- R196: the notice kind values. -/
def NoticeKind.value : NoticeKind → Nat
  | .deviceReset => 0x01
  | .viewChanged => 0x02
  | .enhanceChanged => 0x03
  | .displayChanged => 0x04
  | .outputChanged => 0x05
  | .toneCommitted => 0x06
  | .intakeState => 0x07
  | .projectorState => 0x08
  | .focusState => 0x09
  | .lampState => 0x0A
  | .storeState => 0x0B
  | .storeFault => 0x0C
  | .saveDone => 0x0D
  | .saveFailed => 0x0E
  | .recallDone => 0x0F
  | .recallFailed => 0x10
  | .recallSuperseded => 0x11
  | .lessonChanged => 0x12
  | .catalogueChanged => 0x13
  | .idleState => 0x14

/-- R189: the kinds that coalesce. -/
def NoticeKind.coalesces : NoticeKind → Bool
  | .viewChanged => true
  | .enhanceChanged => true
  | .focusState => true
  | .catalogueChanged => true
  | _ => false

/-- R188, R196: the bytes of an answer frame. -/
def Answer.bytes (a : Answer) : List Byte := u8 a.status.value ++ [a.code] ++ u16 a.data.length ++ a.data

/-- R188: the empty frame. -/
def emptyAnswer : Answer := { status := .empty, code := 0, data := [] }

/-- R189: a port places a notice. -/
def placeNotice (n : Notice) (q : Port) : Port :=
  if n.kind.coalesces && q.notices.any (fun m => m.kind == n.kind) then
    { q with notices := q.notices.map fun m => if m.kind = n.kind then n else m }
  else if 16 ≤ q.notices.length then
    { q with notices := q.notices.drop 1 ++ [n], lost := true }
  else
    { q with notices := q.notices ++ [n] }

/-- Post a notice to one port. -/
def post (p : PortId) (n : Notice) (s : State) : State := s.modPort p (placeNotice n)

/-- Post a notice to all three ports. -/
def postAll (n : Notice) (s : State) : State := post .cp2 n (post .cp1 n (post .cp0 n s))

/-- Post a notice to the two ports other than one. -/
def postOthers (p : PortId) (n : Notice) (s : State) : State :=
  match p with
  | .cp0 => post .cp2 n (post .cp1 n s)
  | .cp1 => post .cp2 n (post .cp0 n s)
  | .cp2 => post .cp1 n (post .cp0 n s)

/-- R188: place an answer at the end of a port's answer queue. -/
def answer (p : PortId) (status : Status) (code : Byte) (data : List Byte) (s : State) : State :=
  s.modPort p fun q => { q with answers := q.answers ++ [{ status := status, code := code, data := data }] }

/-- R192: the discarded-frame counter advances, up to 255. -/
def countDiscard (p : PortId) (s : State) : State :=
  s.modPort p fun q => { q with discarded := min 255 (q.discarded + 1) }

/-- A counter that stops at its top (R5, R6, R95). -/
def bump (n : Nat) : Nat := min Config.maxCount (n + 1)

end Sys2Proof.Machine
end

