-- ==== Sys2Proof/Machine/Operands.lean ====
section
/-! DEFINITION. The forms of request operands: enumeration bytes read as positions in their rules' lists, and the
positions written in answers and notices (R196); the geometries (R10, R38) and the render targets (R75). -/

namespace Sys2Proof.Machine

/-! ## Enumerations read from a request -/

/-- R77: P720, P1080, P2160. -/
def projectorMode? (b : Byte) : Option ProjectorMode :=
  match b.toNat with
  | 0 => some .p720
  | 1 => some .p1080
  | 2 => some .p2160
  | _ => none

/-- R77: OFF, T720, T1080. -/
def tapMode? (b : Byte) : Option TapMode :=
  match b.toNat with
  | 0 => some .off
  | 1 => some .t720
  | 2 => some .t1080
  | _ => none

/-- R91: FREEZE, PAGE. -/
def splitRef? (b : Byte) : Option SplitRef :=
  match b.toNat with
  | 0 => some .freeze
  | 1 => some .page
  | _ => none

/-- R170: TEXT, PHOTO. -/
def pageMode? (b : Byte) : Option PageMode :=
  match b.toNat with
  | 0 => some .text
  | 1 => some .photo
  | _ => none

/-- R178: YES, NO; true is YES. -/
def yesNo? (b : Byte) : Option Bool :=
  match b.toNat with
  | 0 => some true
  | 1 => some false
  | _ => none

/-- R69: ON, OFF; true is ON. -/
def onOff? (b : Byte) : Option Bool :=
  match b.toNat with
  | 0 => some true
  | 1 => some false
  | _ => none

/-- R70: ACTIVE, STAGING; true is ACTIVE. -/
def toneBank? (b : Byte) : Option Bool :=
  match b.toNat with
  | 0 => some true
  | 1 => some false
  | _ => none

/-- R127: the command kinds in the table's order. -/
def commandKind? (b : Byte) : Option CommandKind :=
  match b.toNat with
  | 0 => some .read
  | 1 => some .program
  | 2 => some .writeEnable
  | 3 => some .status
  | 4 => some .sectorErase
  | 5 => some .blockErase
  | 6 => some .idRead
  | _ => none

/-! ## Enumerations written in answers and notices -/

/-- R195. -/
def IntakeState.code : IntakeState → Nat
  | .noSignal => 0
  | .waitFrame => 1
  | .receiving => 2

/-- R195. -/
def DisplayMode.code : DisplayMode → Nat
  | .live => 0
  | .frozen => 1
  | .page => 2
  | .split => 3

/-- R91. -/
def SplitRef.code : SplitRef → Nat
  | .freeze => 0
  | .page => 1

/-- R77. -/
def ProjectorMode.code : ProjectorMode → Nat
  | .p720 => 0
  | .p1080 => 1
  | .p2160 => 2

/-- R77. -/
def TapMode.code : TapMode → Nat
  | .off => 0
  | .t720 => 1
  | .t1080 => 2

/-- R79. -/
def FrameKind.code : FrameKind → Nat
  | .normal => 0
  | .black => 1
  | .skipped => 2
  | .none => 3

/-- R195. -/
def FocusMode.code : FocusMode → Nat
  | .auto => 0
  | .manual => 1

/-- R195. -/
def FocusState.code : FocusState → Nat
  | .search r => match r.phase with
    | .coarse => 0
    | .fine => 1
  | .locked _ => 2
  | .parked => 3
  | .held => 4
  | .fault => 5

/-- R195. -/
def StoreState.code : StoreState → Nat
  | .unmounted => 0
  | .mounting => 1
  | .mounted => 2

/-- R150. -/
def MountResult.code : MountResult → Nat
  | .none => 0
  | .mounted => 1
  | .noStore => 2
  | .deviceFault => 3

/-- R195. -/
def DeviceState.code : DeviceState → Nat
  | .absent => 0
  | .ready => 1
  | .busy _ => 2
  | .faulted _ _ => 3

/-- R131, in the list's order. -/
def FaultCause.position : FaultCause → Nat
  | .timeoutNoFinish => 0
  | .idChanged => 1
  | .carryOver => 2

/-- R131. -/
def Outstanding.code : Outstanding → Nat
  | .program => 0
  | .sectorErase => 1
  | .blockErase => 2
  | .carried => 3

/-- R146, R196. DESIGN CHOICE (log 16): R146 names the lesson states in no list but in a table of moves; their positions
are those of the table's From column, EMPTY, LIVE, REWRITING, WIPED. -/
def LessonState.code : LessonState → Nat
  | .empty => 0
  | .live => 1
  | .rewriting => 2
  | .wiped => 3

/-- R169. -/
def JobState.code : JobState → Nat
  | .pending => 0
  | .rendering => 1
  | .writing => 2
  | .committing => 3

/-- R170, R196. -/
def PageMode.code : PageMode → Nat
  | .text => 0
  | .photo => 1

/-- R196, page record area. -/
def SlotKind.code : SlotKind → Nat
  | .sensor => 0
  | .pageText => 1
  | .pagePhoto => 2

/-- R127, in the table's order. -/
def CommandKind.position : CommandKind → Nat
  | .read => 0
  | .program => 1
  | .writeEnable => 2
  | .status => 3
  | .sectorErase => 4
  | .blockErase => 5
  | .idRead => 6

/-! ## Geometries and targets -/

/-- R10: the width a kind fixes. -/
def SlotKind.width : SlotKind → Nat
  | .sensor => 4096
  | .pageText => 3840
  | .pagePhoto => 1920

/-- R10: the height a kind fixes. -/
def SlotKind.height : SlotKind → Nat
  | .sensor => 3072
  | .pageText => 2160
  | .pagePhoto => 1080

/-- R19: the slot kind of a page's mode. -/
def PageMode.kind : PageMode → SlotKind
  | .text => .pageText
  | .photo => .pagePhoto

/-- R10: whether a kind is a page kind. -/
def SlotKind.isPage : SlotKind → Bool
  | .sensor => false
  | .pageText => true
  | .pagePhoto => true

/-- R75: the render target of a projector mode. -/
def ProjectorMode.target : ProjectorMode → Nat × Nat
  | .p720 => (1280, 720)
  | .p1080 => (1920, 1080)
  | .p2160 => (3840, 2160)

/-- R75: the render target of a tap mode; OFF has none. -/
def TapMode.target : TapMode → Nat × Nat
  | .off => (0, 0)
  | .t720 => (1280, 720)
  | .t1080 => (1920, 1080)

/-- R76: pixels per line and lines per frame, blanking included. -/
def ProjectorMode.totals : ProjectorMode → Nat × Nat
  | .p720 => (1600, 750)
  | .p1080 => (2176, 1120)
  | .p2160 => (4352, 2240)

/-- R76. -/
def TapMode.totals : TapMode → Nat × Nat
  | .off => (0, 0)
  | .t720 => (1600, 750)
  | .t1080 => (2176, 1120)

/-- R75: frames per second. -/
def ProjectorMode.rate : ProjectorMode → Nat
  | .p720 => 60
  | .p1080 => 60
  | .p2160 => 30

/-- R75: frames per second. -/
def TapMode.rate : TapMode → Nat
  | .off => 0
  | .t720 => 30
  | .t1080 => 30

/-- R76: the pixel rate of a pipe, per second: the product of its two totals and its frame rate. -/
def pixelRate (totals : Nat × Nat) (rate : Nat) : Nat := totals.1 * totals.2 * rate

/-- R42: the save target of a mode. -/
def PageMode.target : PageMode → Nat × Nat
  | .text => (3840, 2160)
  | .photo => (1920, 1080)

/-- R65, R66: the image bytes of a mode. -/
def PageMode.imageBytes : PageMode → Nat
  | .text => 1036800
  | .photo => 3110400

/-- R147: the blocks of a mode. -/
def PageMode.blockCount : PageMode → Nat
  | .text => 16
  | .photo => 48

end Sys2Proof.Machine
end

