-- ==== Sys2Proof/Machine/Flags.lean ====
section
/-! DEFINITION. The flags and lines the part computes from its state: the link status byte (R185), the attention
lines (R191), and the idle hold (R119). -/

namespace Sys2Proof.Machine

/-- R185: the request queue holds fewer than 4 frames and PORT_BUSY is clear. -/
def requestSpace (q : Port) : Bool := q.requests.length < 4 && !q.busy

/-- R185, R196: the link status byte. -/
def linkStatus (q : Port) : Byte :=
  (if requestSpace q then 1 else 0) ||| (if q.answers.isEmpty then 0 else 2) |||
    (if q.notices.isEmpty then 0 else 4) ||| (if q.busy then 8 else 0)

/-- R191: whether a port drives its attention line asserted. -/
def attention (q : Port) : Bool := !q.answers.isEmpty || q.mark < q.notices.length

/-- R118, R119: restart the idle timer. -/
def restartTimer (s : State) : State := { s with liu := { s.liu with minutes := 0, minuteFrom := s.now } }

/-- R118: the idle timer runs while the part is ACTIVE and the hold is clear. -/
def timerRuns (l : LampIdle) : Bool := !l.doze && !l.hold

/-- R119: some save job or a recall exists. -/
def storeWork (r : SaveRecall) : Bool := !r.jobs.isEmpty || r.recalling.isSome

/-- R119: the hold follows the save jobs and the recall: set in the event that creates the first of them, with the
timer kept at 0; cleared in the event in which the last ends, where the timer restarts. -/
def updateHold (s : State) : State :=
  if storeWork s.sre = s.liu.hold then s
  else restartTimer { s with liu := { s.liu with hold := storeWork s.sre } }

/-- R29: set the reseed flag. -/
def setReseed (s : State) : State := { s with sst := { s.sst with reseed := true } }

end Sys2Proof.Machine
end

