-- ==== Sys2Proof/Machine/Slots.lean ====
section
/-! DEFINITION. The Frame Store (01_frame_memory_and_sensor_intake.md): the choice of slots (R14), holders (R15 to
R20), the publish counter (R12) and the occupancy of the pool (R21). -/

namespace Sys2Proof.Machine

/-- R15: the holder kinds. -/
inductive HolderKind
  | scanP
  | scanT
  | freeze
  | page
  | saveA
  | saveB
  deriving DecidableEq, Repr

/-- Whether a holder set carries a kind. -/
def Holders.has (h : Holders) : HolderKind → Bool
  | .scanP => h.scanP
  | .scanT => h.scanT
  | .freeze => h.freeze
  | .page => h.page
  | .saveA => h.saveA
  | .saveB => h.saveB

/-- A holder set with a kind put in or taken out. -/
def Holders.put (h : Holders) (k : HolderKind) (b : Bool) : Holders :=
  match k with
  | .scanP => { h with scanP := b }
  | .scanT => { h with scanT := b }
  | .freeze => { h with freeze := b }
  | .page => { h with page := b }
  | .saveA => { h with saveA := b }
  | .saveB => { h with saveB := b }

/-- Whether a holder set is empty. -/
def Holders.isEmpty (h : Holders) : Bool := decide (h = {})

/-- The holder kind of a save holder (R20). -/
def SaveHolder.kind : SaveHolder → HolderKind
  | .saveA => .saveA
  | .saveB => .saveB

/-- A READY slot of SENSOR kind (R13). -/
def readySensor (x : Slot) : Bool := decide (x.state = .ready) && decide (x.kind = some .sensor)

/-- R21: FILLING, LOADING or held. -/
def occupied (x : Slot) : Bool :=
  decide (x.state = .filling) || decide (x.state = .loading) || !x.holders.isEmpty

/-- R21: how many slots are occupied. -/
def occupancy (s : State) : Nat := (slotNumbers.filter fun n => occupied (s.slot n)).length

/-- The publish sequence of a slot, 0 where it has none. -/
def seqOf (s : State) (n : Nat) : Nat := ((s.slot n).seq).getD 0

/-- Of the listed slots, the one with the highest publish sequence. -/
def highestSeq (s : State) (ns : List Nat) : Option Nat :=
  ns.foldl (fun best n => match best with
    | none => some n
    | some m => if seqOf s m < seqOf s n then some n else some m) none

/-- Of the listed slots, the one with the lowest publish sequence. -/
def lowestSeq (s : State) (ns : List Nat) : Option Nat :=
  ns.foldl (fun best n => match best with
    | none => some n
    | some m => if seqOf s n < seqOf s m then some n else some m) none

/-- R13: the newest READY slot, the READY slot of SENSOR kind with the highest publish sequence. -/
def newestReady (s : State) : Option Nat := highestSeq s (slotNumbers.filter fun n => readySensor (s.slot n))

/-- R14: the choice of a slot for filling or loading: the lowest FREE slot, else the unheld READY SENSOR slot with
the lowest publish sequence. -/
def chooseSlot (s : State) : Option Nat :=
  match slotNumbers.find? (fun n => decide ((s.slot n).state = .free)) with
  | some n => some n
  | none => lowestSeq s (slotNumbers.filter fun n => readySensor (s.slot n) && (s.slot n).holders.isEmpty)

/-- The slot that carries a holder kind, the lowest where several do. -/
def holderSlot (s : State) (k : HolderKind) : Option Nat :=
  slotNumbers.find? fun n => (s.slot n).holders.has k

/-- R17: a page slot left unheld becomes FREE; every other slot stays as it is. -/
def releaseUnheld (x : Slot) : Slot :=
  if x.state = .ready && (x.kind.map SlotKind.isPage).getD false && x.holders.isEmpty then {} else x

/-- A holder is placed on a slot (R15). -/
def placeHolder (k : HolderKind) (n : Nat) (s : State) : State :=
  s.setSlot n { s.slot n with holders := (s.slot n).holders.put k true }

/-- A holder leaves a slot, with the effect of R17; a kind the slot does not carry leaves nothing behind. -/
def dropHolder (k : HolderKind) (n : Nat) (s : State) : State :=
  if (s.slot n).holders.has k then
    s.setSlot n (releaseUnheld { s.slot n with holders := (s.slot n).holders.put k false })
  else s

/-- R15: a pipe hands over its new scan set: the holder is on every slot of the set and on no other. -/
def changeScan (k : HolderKind) (set : List Nat) (s : State) : State :=
  slotNumbers.foldl (fun s n => if set.contains n then placeHolder k n s else dropHolder k n s) s

/-- R16, R85: what the loss of a split reference on a slot does to a pipe's context. -/
def loseReference (n : Nat) (c : Context) : Context :=
  if c.reference = some n then { c with blackRef := true } else c

/-- R16: whether a pipe placed its scan holder on a slot as a split reference alone. -/
def scansAsReference (n : Nat) (c : Context) : Bool := decide (c.reference = some n) && !decide (c.live = some n)

/-- R16: when FREEZE or PAGE leaves a slot, the scan holders placed there as split references leave it too, and
their pipes finish the reference half black. -/
def referenceLoss (n : Nat) (s : State) : State :=
  let s' := if scansAsReference n s.opp.ctx then dropHolder .scanP n s else s
  let s' := if scansAsReference n s.opt.ctx then dropHolder .scanT n s' else s'
  { s' with
    opp := { s'.opp with ctx := loseReference n s'.opp.ctx }
    opt := { s'.opt with ctx := loseReference n s'.opt.ctx } }

/-- FREEZE or PAGE leaves the slot it is on, if any, with the effects of R16 and R17. -/
def leaveHolder (k : HolderKind) (s : State) : State :=
  match holderSlot s k with
  | none => s
  | some n => referenceLoss n (dropHolder k n s)

/-- R12: the READY slots take the publish sequences 1, 2, 3, … in their order, and the counter their number. -/
def renumber (f : FrameStore) : FrameStore :=
  let seqs := (f.slots.toList.filter fun x => x.state = .ready).map fun x => x.seq.getD 0
  { slots := tableMap (fun x => if x.state = .ready then
        { x with seq := some (1 + (seqs.filter fun q => q < x.seq.getD 0).length) } else x) f.slots
    counter := seqs.length }

/-- R12: the publish counter advances by one, after a renumbering where it would pass its largest value. -/
def advanceCounter (f : FrameStore) : FrameStore :=
  let f := if Config.maxSequence ≤ f.counter then renumber f else f
  { f with counter := f.counter + 1 }

/-- R3: the record of a slot taken for filling. -/
def fillingSlot (frame : Nat) : Slot :=
  { state := .filling, kind := some .sensor, frame := some frame, concealed := some 0 }

/-- R19: the record of a slot taken for loading a page. -/
def loadingSlot (mode : PageMode) (page : Nat) : Slot :=
  { state := .loading, kind := some mode.kind, page := some page }

/-- R20: the save holder a new save takes. -/
def freeSaveHolder (s : State) : SaveHolder := if (holderSlot s .saveA).isSome then .saveB else .saveA

/-- The slot that is FILLING; R14 and R3 leave at most one. -/
def fillingNumber (s : State) : Option Nat := slotNumbers.find? fun n => decide ((s.slot n).state = .filling)

end Sys2Proof.Machine
end

