-- ==== Sys2Proof/Machine/View.lean ====
section
/-! DEFINITION. The View Controller (03_the_view.md): windows (R40, R41), the active view (R39), the glide (R46,
R47) and the view requests (R48 to R51), with the notices of R54. -/

namespace Sys2Proof.Machine

/-- R40: the size of the window of a source of sw × sh for a target of wo × ho at a zoom. -/
def windowSize (sw sh wo ho z : Nat) : Nat × Nat :=
  let wb := min sw (sh * wo / ho)
  let w := wb * 100 / z
  let w := max 2 (w - w % 2)
  (w, max 1 (w * ho / wo))

/-- R40, R41: the window of a source for a target, at a zoom and a requested centre. -/
def windowOf (sw sh wo ho z qx qy : Nat) : Window :=
  let (w, h) := windowSize sw sh wo ho z
  let cx := clamp (w / 2) (sw - w / 2) qx
  let cy := clamp (h / 2) (sh - h + h / 2) qy
  { x0 := cx - w / 2, y0 := cy - h / 2, w := w, h := h, cx := cx, cy := cy }

/-- The window of a view record on a source kind, for a target (R42). -/
def viewWindow (kind : SlotKind) (target : Nat × Nat) (v : ViewRecord) : Window :=
  windowOf kind.width kind.height target.1 target.2 v.zc v.qx v.qy

/-- R43: the projector's full-frame target, from its output mode as last applied. -/
def projectorTarget (s : State) : Nat × Nat := s.opp.applied.target

/-- R43: the LIVE view's projector window. -/
def liveWindow (s : State) : Window := viewWindow .sensor (projectorTarget s) s.vwc.live

/-- The PAGE record's geometry as a slot kind; while it is absent the record is never the active view (R39). -/
def pageGeometry (s : State) : SlotKind := (s.vwc.geom.map PageMode.kind).getD .pageText

/-- R43: the PAGE view's projector window. -/
def pageWindow (s : State) : Window := viewWindow (pageGeometry s) (projectorTarget s) s.vwc.page

/-- R39: the active view is PAGE while the display mode is PAGE, and LIVE otherwise. -/
def pageActive (s : State) : Bool := decide (s.disp.mode = .page)

/-- The active view record (R39). -/
def activeView (s : State) : ViewRecord := if pageActive s then s.vwc.page else s.vwc.live

/-- The source kind whose geometry the active view has (R38). -/
def activeKind (s : State) : SlotKind := if pageActive s then pageGeometry s else .sensor

/-- Replace the active view record. -/
def setActiveView (v : ViewRecord) (s : State) : State :=
  if pageActive s then { s with vwc := { s.vwc with page := v } } else { s with vwc := { s.vwc with live := v } }

/-- R46: one glide step of a record. -/
def glideRecord (rate : Nat) (v : ViewRecord) : ViewRecord :=
  if rate = 0 then { v with zc := v.zt }
  else if v.zc ≤ v.zt then { v with zc := min v.zt (v.zc + rate) }
  else { v with zc := max v.zt (v.zc - rate) }

/-- R46: a glide step of both records. -/
def glideStep (s : State) : State :=
  { s with vwc := { s.vwc with
      live := glideRecord s.vwc.glide s.vwc.live
      page := glideRecord s.vwc.glide s.vwc.page } }

/-- R47: at a publish with the projector absent and the tap OFF, both records reach their target zoom. -/
def glideJump (s : State) : State :=
  { s with vwc := { s.vwc with
      live := { s.vwc.live with zc := s.vwc.live.zt }
      page := { s.vwc.page with zc := s.vwc.page.zt } } }

/-- A geometry field: width and height (R51, R54). -/
def geometryField (m : PageMode) : List Byte := u16 m.kind.width ++ u16 m.kind.height

/-- R54: the VIEW_CHANGED notice, with its cause. -/
def viewNotice (cause : List Byte) (s : State) : Notice :=
  { kind := .viewChanged
    contents := u16 s.vwc.live.zt ++ u16 s.vwc.live.qx ++ u16 s.vwc.live.qy ++ u16 s.vwc.page.zt ++
      u16 s.vwc.page.qx ++ u16 s.vwc.page.qy ++ optionalField geometryField s.vwc.geom ++ u8 s.vwc.glide ++
      cause }

/-- R52: the PAGE record is reset to a new page. -/
def resetPageView (m : PageMode) (s : State) : State :=
  { s with vwc := { s.vwc with
      page := { zt := 100, zc := 100, qx := m.kind.width / 2, qy := m.kind.height / 2 }
      geom := some m } }

/-- The record field of a view answer: LIVE or PAGE (R48, R51). -/
def recordField (s : State) : List Byte := u8 (if pageActive s then 1 else 0)

/-- R48: SET_VIEW. -/
def takeSetView (p : PortId) (zoom qx qy : Half) (s : State) : State :=
  let k := activeKind s
  let v := { activeView s with
    zt := clamp 100 1600 zoom.toNat
    qx := clamp 0 (k.width - 1) qx.toNat
    qy := clamp 0 (k.height - 1) qy.toNat }
  let s := setActiveView v s
  let s := postOthers p (viewNotice (portCause p) s) s
  answer p .ok 0x10 (recordField s ++ u16 v.zt ++ u16 v.qx ++ u16 v.qy) s

/-- R49: the pan of a nudge in source pixels: truncated toward zero. -/
def panPixels (d : Int) (size target : Nat) : Int := (d * size).tdiv target

/-- R49: NUDGE_VIEW. -/
def takeNudgeView (p : PortId) (zoomDelta dx dy : Half) (s : State) : State :=
  let k := activeKind s
  let v := activeView s
  let target := projectorTarget s
  let w := viewWindow k target v
  let zt := (clampInt 100 1600 (v.zt + clampInt (-1500) 1500 zoomDelta.toInt)).toNat
  let px := panPixels (clampInt (-3840) 3840 dx.toInt) w.w target.1
  let py := panPixels (clampInt (-2160) 2160 dy.toInt) w.h target.2
  let v := { v with
    zt := zt
    qx := (clampInt 0 (k.width - 1) (w.cx + px)).toNat
    qy := (clampInt 0 (k.height - 1) (w.cy + py)).toNat }
  let s := setActiveView v s
  let s := postOthers p (viewNotice (portCause p) s) s
  answer p .ok 0x11 (recordField s ++ u16 v.zt ++ u16 v.qx ++ u16 v.qy ++ s16 px ++ s16 py) s

/-- R50: SET_GLIDE. -/
def takeSetGlide (p : PortId) (rate : Half) (s : State) : State :=
  let s := { s with vwc := { s.vwc with glide := clamp 0 200 rate.toNat } }
  let s := postOthers p (viewNotice (portCause p) s) s
  answer p .ok 0x12 (u8 s.vwc.glide) s

/-- A window field: effective centre, origin, width and height (R51). -/
def windowField (w : Window) : List Byte :=
  u16 w.cx ++ u16 w.cy ++ u16 w.x0 ++ u16 w.y0 ++ u16 w.w ++ u16 w.h

/-- The Zt, Zc and centre of a record (R51). -/
def viewField (v : ViewRecord) : List Byte := u16 v.zt ++ u16 v.zc ++ u16 v.qx ++ u16 v.qy

/-- R51: GET_VIEW. -/
def takeGetView (p : PortId) (s : State) : State :=
  answer p .ok 0x13
    (recordField s ++ u8 s.vwc.glide ++ viewField s.vwc.live ++ windowField (liveWindow s) ++
      viewField s.vwc.page ++ optionalField geometryField s.vwc.geom ++
      optionalField windowField (s.vwc.geom.map fun _ => pageWindow s) ++
      u16 (projectorTarget s).1 ++ u16 (projectorTarget s).2) s

end Sys2Proof.Machine
end

