-- ==== Sys2Proof/Machine/Focus.lean ====
section
/-! DEFINITION. The Focus Controller (06_focus.md): the lens link (R99, R100), the search (R102 to R105), staying
locked (R106), hold and wake (R107), the focus requests (R108 to R111) and FOCUS_STATE (R112). -/

namespace Sys2Proof.Machine

/-! ## The lens link -/

/-- R98: the aim position: the wanted position, else the position being sent, else the lens position. -/
def aimPosition (f : Focus) : Nat := f.wanted.getD ((f.link.map LensMove.pos).getD f.lensPos)

/-- R99: the three bytes of a lens transaction: the address with the write direction, the two upper bits of the
position, the eight lower bits. PRESUMED (log 40): the address byte is that of the I2C bus, the seven address bits above a
lowest bit of 0 for the write direction. -/
def lensBytes (m : LensMove) : List Byte := u8 (2 * m.addr) ++ u8 (m.pos / 256 % 4) ++ u8 m.pos

/-- R99: what stands on the lens link, in order: the part's start and stop conditions, its bytes each with whether the
driver acknowledges it, and the release of the bus after a clock hold. -/
inductive LensSignal
  | start
  | byte (value : Byte) (acknowledged : Bool)
  | stop
  | release
  deriving DecidableEq, Repr

/-- R99: bytes sent one after the other, each with the driver's acknowledgement; none follows one that is not
acknowledged. -/
def sendLensBytes : List Byte → List Bool → List LensSignal
  | b :: bytes, a :: acks => .byte b a :: if a then sendLensBytes bytes acks else []
  | _, _ => []

/-- R99: the transaction of a move whose bytes the driver answers with these acknowledgements, from its start to its
stop condition; one that a reset cuts off stops after the bytes answered so far (R113). -/
def lensTransaction (m : LensMove) (acks : List Bool) : List LensSignal :=
  .start :: sendLensBytes (lensBytes m) acks ++ [.stop]

/-- R99: a transaction that the driver's clock hold cuts off after these acknowledgements: the part releases the bus. -/
def lensClockHeld (m : LensMove) (acks : List Bool) : List LensSignal :=
  .start :: sendLensBytes (lensBytes m) acks ++ [.release]

/-- R99: whether something on the lens link makes its transaction fail. -/
def LensSignal.fails : LensSignal → Bool
  | .byte _ acknowledged => !acknowledged
  | .release => true
  | .start => false
  | .stop => false

/-- R99: a transaction succeeds when every byte of it is acknowledged and no clock hold cuts it off. -/
def lensSucceeds (signals : List LensSignal) : Bool := signals.all fun x => !x.fails

/-- R103: a move that a search wants sets its settle count to 0. -/
def resetSettle : FocusState → FocusState
  | .search r => .search { r with settle := 0 }
  | other => other

/-- R100, R113: a move is wanted: it starts at once on an idle link, and becomes the wanted position on a busy one;
a reset move is no longer owed. -/
def wantMove (pos : Nat) (f : Focus) : Focus :=
  let f := { f with owed := false, state := resetSettle f.state }
  match f.link with
  | none => { f with link := some { pos := pos, attempt := 1, addr := f.addr } }
  | some _ => { f with wanted := some pos }

/-! ## The search -/

/-- R102: a new search from the aim position, with the window width as it stands. -/
def startSearch (width : Nat) (f : Focus) : Focus :=
  let r : Search :=
    { phase := .coarse, up := decide (aimPosition f ≤ 768), steps := 0, reversed := false, bestMeasure := none,
      bestPos := aimPosition f, fineList := [], fineIndex := 0, fineMeasures := [], width := width, settle := 0 }
  { f with state := .search r }

/-- R105: the fine list about a position: clamped, ascending, each position once. -/
def finePositions (best : Nat) : List Nat :=
  ([best - 24, best - 16, best - 8, best, best + 8, best + 16, best + 24].map (min 1023)).foldl
    (fun l p => if l.contains p then l else l ++ [p]) []

/-- R105: phase FINE begins. -/
def enterFine (r : Search) (f : Focus) : Focus :=
  let l := finePositions r.bestPos
  let r' := { r with phase := .fine, bestMeasure := none, fineList := l, fineIndex := 0, fineMeasures := [] }
  wantMove (l.headD r.bestPos) { f with state := .search r' }

/-- R104: the passed-peak outcome: the search reverses once, and only after one step; otherwise it enters FINE. -/
def passedPeak (r : Search) (f : Focus) : Focus :=
  if r.steps = 1 ∧ r.reversed = false then
    wantMove r.bestPos { f with state := .search { r with up := !r.up, reversed := true, steps := 0 } }
  else enterFine r f

/-- R104: the search steps from the lens position in its direction, or has nowhere further to step. -/
def stepSearch (r : Search) (f : Focus) : Focus :=
  if (r.up = true ∧ 1023 ≤ f.lensPos) ∨ (r.up = false ∧ f.lensPos = 0) then passedPeak r f
  else
    wantMove (if r.up then min 1023 (f.lensPos + 64) else f.lensPos - 64)
      { f with state := .search { r with steps := r.steps + 1 } }

/-- R104: a valid measure in phase COARSE. -/
def coarseMeasure (m : Nat) (r : Search) (f : Focus) : Focus :=
  match r.bestMeasure with
  | none => stepSearch { r with bestMeasure := some m, bestPos := f.lensPos } f
  | some b =>
    if b < m then stepSearch { r with bestMeasure := some m, bestPos := f.lensPos } f
    else if 16 * m < 15 * b then passedPeak r f
    else stepSearch r f

/-- R105: of measured positions in ascending order, the one with the greatest measure, the lowest among equals. -/
def bestFine (l : List (Nat × Nat)) : Nat :=
  (l.foldl (fun (best : Option (Nat × Nat)) pm => match best with
    | none => some pm
    | some b => if b.2 < pm.2 then some pm else some b) none).elim 0 Prod.fst

/-- R105: FOC enters LOCKED at a position, under the window width of this publish. -/
def enterLocked (pos width : Nat) (f : Focus) : Focus :=
  let f := { f with state := .locked { pos := pos, width := width, motionSeen := false, quiet := 0 } }
  if f.lensPos = pos then f else wantMove pos f

/-- R105: a valid measure in phase FINE. -/
def fineMeasure (m width : Nat) (r : Search) (f : Focus) : Focus :=
  let measures := r.fineMeasures ++ [m]
  match r.fineList[r.fineIndex + 1]? with
  | some p => wantMove p
      { f with state := .search { r with fineMeasures := measures, fineIndex := r.fineIndex + 1 } }
  | none => enterLocked (bestFine (r.fineList.zip measures)) width f

/-- The distance of two widths. -/
def widthGap (a b : Nat) : Nat := (a - b) + (b - a)

/-- R103: what a publish does to a search: the first test that holds. -/
def searchPublish (measure motion width : Nat) (still : Bool) (r : Search) (f : Focus) : Focus :=
  if f.link.isSome ∨ f.wanted.isSome then f
  else if f.threshold ≤ motion then f
  else if still = false then f
  else if r.width ≤ 4 * widthGap width r.width then startSearch width f
  else if r.settle < 2 then { f with state := .search { r with settle := r.settle + 1 } }
  else match r.phase with
    | .coarse => coarseMeasure measure r f
    | .fine => fineMeasure measure width r f

/-- R106: the motion watch after a motion count. DESIGN CHOICE (log 35): a count that is at or above the refocus
threshold and below the wake threshold meets both of R106's first cases, and the first is taken: quiet becomes 0. -/
def watchMotion (motion threshold wakeThreshold : Nat) (l : Lock) : Lock :=
  if threshold ≤ motion then { l with motionSeen := true, quiet := 0 }
  else if motion < wakeThreshold ∧ l.motionSeen = true then { l with quiet := l.quiet + 1 }
  else { l with quiet := 0 }

/-- R106: what a publish does in LOCKED. -/
def lockedPublish (motion width wakeThreshold : Nat) (still : Bool) (l : Lock) (f : Focus) : Focus :=
  let l := watchMotion motion f.threshold wakeThreshold l
  if (still = true ∧ l.width ≤ 4 * widthGap width l.width) ∨ 3 ≤ l.quiet then startSearch width f
  else { f with state := .locked l }

/-- R113: at a publish with the reset move owed and FOC not HELD, a move to the lens position is wanted. -/
def resetMove (f : Focus) : Focus :=
  if f.owed = true ∧ f.state ≠ .held then wantMove f.lensPos f else f

/-- R101, R103, R106, R113: what a publish does to FOC. -/
def focusOnPublish (measure motion width wakeThreshold : Nat) (still : Bool) (f : Focus) : Focus :=
  let f := resetMove { f with last := some (measure, motion) }
  match f.state with
  | .search r => searchPublish measure motion width still r f
  | .locked l => lockedPublish motion width wakeThreshold still l f
  | _ => f

/-- R104: whether a completed move was the one back to the best position, from which the search steps at once. -/
def turnedBack (r : Search) : Bool := decide (r.phase = .coarse) && r.reversed && decide (r.steps = 0)

/-- R100: the move is complete. -/
def moveComplete (f : Focus) : Focus :=
  match f.state with
  | .search r => if turnedBack r then stepSearch r f else f
  | _ => f

/-- R100: a lens transaction ends, successfully or not; with no transaction in flight nothing ends. -/
def lensEnded (success : Bool) (f : Focus) : Focus :=
  match f.link with
  | none => f
  | some m =>
    if success then
      let f := { f with lensPos := m.pos }
      match f.wanted with
      | some p => { f with link := some { pos := p, attempt := 1, addr := f.addr }, wanted := none }
      | none => moveComplete { f with link := none }
    else if m.attempt = 1 then
      { f with link := some { pos := f.wanted.getD m.pos, attempt := 2, addr := m.addr }, wanted := none }
    else { f with link := none, wanted := none, state := .fault }

/-- R100: whether this end is the second failed attempt of a move. -/
def lensFails (success : Bool) (f : Focus) : Bool :=
  !success && (f.link.map fun m => !decide (m.attempt = 1)).getD false

/-! ## FOCUS_STATE and the blocks' events -/

/-- The search record of a focus state, present in COARSE and FINE. -/
def FocusState.search? : FocusState → Option Search
  | .search r => some r
  | _ => none

/-- The lock record of a focus state, present in LOCKED. -/
def FocusState.lock? : FocusState → Option Lock
  | .locked l => some l
  | _ => none

/-- The phase as an enumeration. -/
def SearchPhase.code : SearchPhase → Nat
  | .coarse => 0
  | .fine => 1

/-- R112: the FOCUS_STATE notice, with its cause. -/
def focusNotice (cause : List Byte) (f : Focus) : Notice :=
  { kind := .focusState
    contents := u8 f.mode.code ++ u8 f.state.code ++
      optionalField (fun r => u8 (SearchPhase.code (Search.phase r))) f.state.search? ++ u16 f.lensPos ++
      optionalField (fun l => u16 (Lock.pos l)) f.state.lock? ++ u8 f.addr ++ cause }

/-- R112: post FOCUS_STATE to all three ports. -/
def postFocus (cause : List Byte) (s : State) : State := postAll (focusNotice cause s.foc) s

/-- R112: the named causes SEARCH, LINK, DOZE and WAKE. -/
def searchCause : List Byte := namedCause 0

/-- R112. -/
def linkCause : List Byte := namedCause 1

/-- R112. -/
def dozeCause : List Byte := namedCause 2

/-- R112. -/
def wakeCause : List Byte := namedCause 3

/-- R112: the search changes the focus state by itself: FOCUS_STATE is posted with cause SEARCH if it did. -/
def searchMoves (f : Focus) (s : State) : State :=
  if f.state.code = s.foc.state.code then { s with foc := f } else postFocus searchCause { s with foc := f }

/-- R35, R101: Scene Statistics delivers a measure and a motion count to FOC. -/
def focusPublish (measure motion : Nat) (s : State) : State :=
  searchMoves (focusOnPublish measure motion (liveWindow s).w s.liu.wakeThreshold
    (decide (s.vwc.live.zc = s.vwc.live.zt)) s.foc) s

/-- R100: a lens transaction ends. -/
def focusLensEnd (success : Bool) (s : State) : State :=
  if lensFails success s.foc then postFocus linkCause { s with foc := lensEnded success s.foc }
  else searchMoves (lensEnded success s.foc) s

/-- R107: the part enters DOZE. -/
def focusHold (s : State) : State :=
  match s.foc.state with
  | .held => s
  | .fault => s
  | _ => postFocus dozeCause { s with foc := { s.foc with state := .held, wanted := none } }

/-- R107: the part wakes. -/
def focusWake (s : State) : State :=
  match s.foc.state with
  | .held =>
    postFocus wakeCause { s with foc := match s.foc.mode with
      | .auto => startSearch (liveWindow s).w s.foc
      | .manual => { s.foc with state := .parked } }
  | _ => s

/-! ## Requests -/

/-- R108: FOCUS_AUTO. -/
def takeFocusAuto (p : PortId) (threshold : Option Half) (s : State) : State :=
  let wasFault := decide (s.foc.state = .fault)
  let f := { s.foc with
    threshold := (threshold.map fun t => clamp 1 768 t.toNat).getD s.foc.threshold
    mode := .auto }
  let f := startSearch (liveWindow s).w f
  let f := if wasFault then wantMove f.lensPos f else f
  let s := postFocus (portCause p) { s with foc := f }
  answer p .ok 0x30 (u8 f.mode.code ++ u8 f.state.code ++ u16 f.threshold) s

/-- R109: FOCUS_MANUAL. -/
def takeFocusManual (p : PortId) (position : Half) (s : State) : State :=
  let pos := clamp 0 1023 position.toNat
  let f := { s.foc with mode := .manual, state := .parked }
  let f := if aimPosition f = pos then f else wantMove pos f
  let s := postFocus (portCause p) { s with foc := f }
  answer p .ok 0x31 (u16 pos) s

/-- R110: SET_FOCUS_LINK. -/
def takeSetFocusLink (p : PortId) (address : Byte) (s : State) : State :=
  if address.toNat < 0x08 ∨ 0x77 < address.toNat then answer p .badParam 0x32 [] s
  else
    let s := postFocus (portCause p) { s with foc := { s.foc with addr := address.toNat } }
    answer p .ok 0x32 (u8 address.toNat) s

/-- R111: the fields of the search record. -/
def searchField (r : Option Search) : List Byte :=
  let fine := r.filter fun r => decide (r.phase = .fine)
  optionalField (fun r => u8 (SearchPhase.code (Search.phase r))) r ++
    optionalField (fun r => s8 (if Search.up r then 1 else -1)) r ++ optionalField (fun r => u8 (Search.steps r)) r ++
    optionalField (fun r => flagByte (Search.reversed r)) r ++ optionalField u32 (r.bind Search.bestMeasure) ++
    optionalField (fun r => u16 (Search.bestPos r)) r ++ optionalField (fun r => u8 (Search.settle r)) r ++
    optionalField (fun r => u16 (Search.width r)) r ++
    optionalField (fun r => entryList u16 (Search.fineList r)) fine ++
    optionalField (fun r => u8 (Search.fineIndex r)) fine ++
    optionalField (fun r => entryList u32 (Search.fineMeasures r)) fine

/-- R111: the fields of the lock record and the motion watch. -/
def lockField (l : Option Lock) : List Byte :=
  optionalField (fun l => u16 (Lock.pos l)) l ++ optionalField (fun l => u16 (Lock.width l)) l ++
    optionalField (fun l => flagByte (Lock.motionSeen l)) l ++ optionalField (fun l => u8 (Lock.quiet l)) l

/-- R111: GET_FOCUS. -/
def takeGetFocus (p : PortId) (s : State) : State :=
  let f := s.foc
  answer p .ok 0x33
    (u8 f.mode.code ++ u8 f.state.code ++ u16 f.lensPos ++ u16 (aimPosition f) ++
      u8 (if f.link.isSome then 1 else 0) ++ optionalField (fun m => u16 (LensMove.pos m)) f.link ++
      optionalField (fun m => u8 (LensMove.attempt m)) f.link ++ optionalField u16 f.wanted ++ u8 f.addr ++
      u16 f.threshold ++ searchField f.state.search? ++ lockField f.state.lock? ++
      optionalField u32 (f.last.map Prod.fst) ++ optionalField u16 (f.last.map Prod.snd)) s

end Sys2Proof.Machine
end

