-- ==== Sys2Proof/Machine/Tone.lean ====
section
/-! DEFINITION. The settings the Render Engine holds (04_render_arithmetic.md): the enhancement record (R68 to R70)
and the tone banks with their swap (R70 to R73). -/

namespace Sys2Proof.Machine

/-- The enhancement record as bytes: flatten (ON is 0), strength, core, threshold (R69, R196). -/
def enhanceField (e : Enhance) : List Byte :=
  u8 (if e.flatten then 0 else 1) ++ u8 e.sharpen ++ u8 e.core ++ u8 e.threshold

/-- R30: the paper floor is taken, and the reseed flag set if it changed. -/
def takeFloor (floor : Option Byte) (s : State) : State :=
  match floor with
  | none => s
  | some b =>
    let f := clamp 32 192 b.toNat
    if f = s.sst.floor then s else setReseed { s with sst := { s.sst with floor := f } }

/-- R69: SET_ENHANCE. -/
def takeSetEnhance (p : PortId) (flatten sharpen core threshold floor : Option Byte) (s : State) : State :=
  if (flatten.map fun b => (onOff? b).isNone).getD false then answer p .badParam 0x18 [] s
  else
    let e := s.ren.enh
    let e := { e with
      flatten := (flatten.bind onOff?).getD e.flatten
      sharpen := (sharpen.map fun b => clamp 0 31 b.toNat).getD e.sharpen
      core := (core.map fun b => clamp 0 31 b.toNat).getD e.core
      threshold := (threshold.map fun b => clamp 1 254 b.toNat).getD e.threshold }
    let s := takeFloor floor { s with ren := { s.ren with enh := e } }
    let s := postOthers p
      { kind := .enhanceChanged, contents := enhanceField e ++ u8 s.sst.floor ++ u8 (portNumber p) } s
    answer p .ok 0x18 (enhanceField e ++ u8 s.sst.floor) s

/-- R70: GET_ENHANCE. -/
def takeGetEnhance (p : PortId) (s : State) : State :=
  answer p .ok 0x19 (enhanceField s.ren.enh ++ u8 s.sst.floor ++ flagByte s.ren.swap ++ u16 (s.port p).tone) s

/-- R71: values written into a bank in order from an index on; a value beyond entry 255 is dropped. -/
def writeBank (bank : List Byte) (start : Nat) (values : List Byte) : List Byte :=
  (bank.take start ++ values.take (256 - start)) ++ bank.drop (start + (values.take (256 - start)).length)

/-- R71: the values that are not dropped. -/
def written (start : Nat) (values : List Byte) : Nat := min values.length (256 - start)

/-- R71, R72: values go into the staging bank, and the port's tone pointer behind the last one written. DESIGN CHOICE
(log 33): the OK answer of a LOAD_TONE_NEXT at pointer 256 carries the pointer beside its count of 0. -/
def loadStaging (p : PortId) (code : Byte) (start : Nat) (values : List Byte) (s : State) : State :=
  let n := written start values
  let s := { s with ren := { s.ren with staging := writeBank s.ren.staging start values } }
  let s := s.modPort p fun q => { q with tone := start + n }
  answer p .ok code (u8 n ++ u16 (start + n)) s

/-- R71: LOAD_TONE, its length already found to fit. -/
def takeLoadTone (p : PortId) (start : Half) (values : List Byte) (s : State) : State :=
  if 255 < start.toNat then answer p .badParam 0x1A [] s
  else loadStaging p 0x1A start.toNat values s

/-- R72: LOAD_TONE_NEXT, its length already found to fit. -/
def takeLoadToneNext (p : PortId) (values : List Byte) (s : State) : State :=
  loadStaging p 0x1B (s.port p).tone values s

/-- R73: COMMIT_TONE marks a swap pending. -/
def takeCommitTone (p : PortId) (s : State) : State :=
  answer p .ok 0x1C [] { s with ren := { s.ren with swap := true } }

/-- R73: a pending swap is taken: staging becomes active, a copy of it stands in staging, the mark is cleared and
TONE_COMMITTED goes to all three ports. -/
def toneSwap (s : State) : State :=
  if s.ren.swap then
    postAll { kind := .toneCommitted, contents := [] }
      { s with ren := { s.ren with active := s.ren.staging, swap := false } }
  else s

/-- R70: GET_TONE. -/
def takeGetTone (p : PortId) (bank : Byte) (start : Half) (count : Byte) (s : State) : State :=
  match toneBank? bank with
  | none => answer p .badParam 0x1D [] s
  | some isActive =>
    if 255 < start.toNat then answer p .badParam 0x1D [] s
    else
      let entries := ((if isActive then s.ren.active else s.ren.staging).drop start.toNat).take
        (clamp 1 64 count.toNat)
      answer p .ok 0x1D (u8 bank.toNat ++ u8 start.toNat ++ entryList (fun b => [b]) entries) s

end Sys2Proof.Machine
end

