-- ==== Sys2Proof/Machine/Render.lean ====
section
/-! DEFINITION. The Render Engine's arithmetic (04_render_arithmetic.md): every pixel of every render (R56 to R64),
the save encodings (R65, R66) and the decoding of a recalled page (R67). -/

namespace Sys2Proof.Machine

/-- A pixel as it is put out: Y, Cb, Cr. -/
structure Pixel where
  y : Nat
  cb : Nat
  cr : Nat
  deriving DecidableEq, Repr

/-- R64: the pixel black of the part. -/
def blackPixel : Pixel := { y := 16, cb := 128, cr := 128 }

/-- R56: the inputs of a render. `paper` is the paper map as it stands when the output pixel of a raster index is
computed (log 7). -/
structure RenderInput where
  mem : Memory
  base : Nat
  kind : SlotKind
  window : Window
  wo : Nat
  ho : Nat
  enh : Enhance
  tone : List Byte
  paper : Nat → List Nat

/-- The luma of source pixel (x, y): the second byte of its pair of bytes (R1, R59). -/
def sourceLuma (r : RenderInput) (x y : Nat) : Nat :=
  (memRead r.mem (r.base + 2 * (y * r.kind.width + x) + 1)).toNat

/-- R59: the Cb of pair m of source row y. -/
def sourceCb (r : RenderInput) (m y : Nat) : Nat := (memRead r.mem (r.base + 2 * (y * r.kind.width + 2 * m))).toNat

/-- R59: the Cr of pair m of source row y. -/
def sourceCr (r : RenderInput) (m y : Nat) : Nat :=
  (memRead r.mem (r.base + 2 * (y * r.kind.width + 2 * m) + 2)).toNat

/-- R31, R56, R61: the paper map under which a pixel of a render was computed: the map of the first mark that lies
beyond it, else the map as it stands (log 7). -/
def paperAt (marks : List (Nat × List Nat)) (map : List Nat) (pixel : Nat) : List Nat :=
  ((marks.find? fun m => decide (pixel < m.1)).map Prod.snd).getD map

/-- R57: step 1 on one axis: the source position of output pixel i in 1/256 of a pixel, clamped to the source. -/
def sourcePosition (i origin window target size : Nat) : Nat :=
  min (256 * (size - 1)) (256 * origin + (2 * i + 1) * window * 256 / (2 * target) - 128)

/-- R57: the source column position of output column i. -/
def columnPosition (r : RenderInput) (i : Nat) : Nat := sourcePosition i r.window.x0 r.window.w r.wo r.kind.width

/-- R57: the source row position of output row j. -/
def rowPosition (r : RenderInput) (j : Nat) : Nat := sourcePosition j r.window.y0 r.window.h r.ho r.kind.height

/-- R58: the bilinear average of four samples with fractions fx and fy. -/
def bilinear (fx fy p00 p10 p01 p11 : Nat) : Nat :=
  ((256 - fx) * (256 - fy) * p00 + fx * (256 - fy) * p10 + (256 - fx) * fy * p01 + fx * fy * p11 + 32768) / 65536

/-- R58: step 2: the luma of output pixel (i, j). A sample beyond the last column or row is taken from it. -/
def interpolatedLuma (r : RenderInput) (i j : Nat) : Nat :=
  let u := columnPosition r i
  let v := rowPosition r j
  let x := u / 256
  let y := v / 256
  let x1 := min (r.kind.width - 1) (x + 1)
  let y1 := min (r.kind.height - 1) (y + 1)
  bilinear (u % 256) (v % 256) (sourceLuma r x y) (sourceLuma r x1 y) (sourceLuma r x y1) (sourceLuma r x1 y1)

/-- R31: the flattening gain of a paper map entry. -/
def flatteningGain (w : Nat) : Nat := clamp 256 1024 ((65280 + w / 2) / w)

/-- R60: a luma scaled by a gain, rounded to nearest and limited. -/
def flattened (y g : Nat) : Nat := min 255 ((y * g + 128) / 256)

/-- R60: the paper map entry of the tile a source position stands in. -/
def paperEntry (map : List Nat) (x y : Nat) : Nat := map.getD (32 * (y / 128) + x / 128) 255

/-- R60: step 4: the flattened luma F of output pixel (i, j). -/
def flatLuma (r : RenderInput) (i j : Nat) : Nat :=
  let y := interpolatedLuma r i j
  if r.kind = .sensor ∧ r.enh.flatten = true then
    flattened y (flatteningGain (paperEntry (r.paper (j * r.wo + i)) (columnPosition r i / 256)
      (rowPosition r j / 256)))
  else y

/-- R61: the blur of a centre value and its eight neighbours. -/
def blur (f n s e w ne nw se sw : Nat) : Nat := (4 * f + 2 * (n + s + e + w) + (ne + nw + se + sw) + 8) / 16

/-- R62: the detail, cored. -/
def cored (k : Nat) (d : Int) : Int :=
  if d.natAbs ≤ k then 0 else if 0 < d then d - k else d + k

/-- R62: the sharpened luma of a centre value, a blur, a strength and a core. -/
def sharpened (s k f b : Nat) : Nat :=
  (clampInt 0 255 ((f : Int) + (cored k ((f : Int) - (b : Int)) * s).tdiv 8)).toNat

/-- R61, R62: step 5: the sharpened luma of output pixel (i, j) of its own raster. -/
def sharpLuma (r : RenderInput) (i j : Nat) : Nat :=
  let f := flatLuma r i j
  if r.kind = .sensor ∧ 0 < r.enh.sharpen then
    let e := min (r.wo - 1) (i + 1)
    let w := i - 1
    let n := j - 1
    let s := min (r.ho - 1) (j + 1)
    let b := blur f (flatLuma r i n) (flatLuma r i s) (flatLuma r e j) (flatLuma r w j) (flatLuma r e n)
      (flatLuma r w n) (flatLuma r e s) (flatLuma r w s)
    sharpened r.enh.sharpen r.enh.core f b
  else f

/-- R63: step 6: the final luma of output pixel (i, j); a page bypasses the tone table. -/
def finalLuma (r : RenderInput) (i j : Nat) : Nat :=
  let out := sharpLuma r i j
  if r.kind = .sensor then (r.tone.getD out 0).toNat else out

/-- R59, R63: the rendered pixel (i, j). -/
def renderPixel (r : RenderInput) (i j : Nat) : Pixel :=
  let m := columnPosition r i / 256 / 2
  let y := rowPosition r j / 256
  { y := finalLuma r i j, cb := sourceCb r m y, cr := sourceCr r m y }

/-! ## Save encoding -/

/-- R65: one byte of a TEXT image: eight pixels, the leftmost in the most significant bit, ink a 1. -/
def textByte (r : RenderInput) (n : Nat) : Byte :=
  BitVec.ofNat 8 ((List.range 8).foldl (fun acc b =>
    2 * acc + (if finalLuma r (8 * (n % 480) + b) (n / 480) < r.enh.threshold then 1 else 0)) 0)

/-- R65: the TEXT image of a save render. -/
def textImage (r : RenderInput) : List Byte := (List.range PageMode.text.imageBytes).map (textByte r)

/-- R66: the average of four chroma values, rounded to nearest with halves upward. -/
def chromaAverage (a b c d : Nat) : Nat := (a + b + c + d + 2) / 4

/-- R66: the chroma sample (m, n) of a plane, from the four rendered pixels about it. -/
def planeSample (r : RenderInput) (f : Pixel → Nat) (m n : Nat) : Nat :=
  chromaAverage (f (renderPixel r (2 * m) (2 * n))) (f (renderPixel r (2 * m + 1) (2 * n)))
    (f (renderPixel r (2 * m) (2 * n + 1))) (f (renderPixel r (2 * m + 1) (2 * n + 1)))

/-- R66: one byte of a PHOTO image: the Y plane, then the Cb plane, then the Cr plane. -/
def photoByte (r : RenderInput) (n : Nat) : Byte :=
  BitVec.ofNat 8
    (if n < 2073600 then finalLuma r (n % 1920) (n / 1920)
     else if n < 2592000 then planeSample r Pixel.cb ((n - 2073600) % 960) ((n - 2073600) / 960)
     else planeSample r Pixel.cr ((n - 2592000) % 960) ((n - 2592000) / 960))

/-- R66: the PHOTO image of a save render. -/
def photoImage (r : RenderInput) : List Byte := (List.range PageMode.photo.imageBytes).map (photoByte r)

/-- The image a save render writes into its buffer. -/
def saveImage (mode : PageMode) (r : RenderInput) : List Byte :=
  match mode with
  | .text => textImage r
  | .photo => photoImage r

/-! ## Decoding a recalled page (R67) -/

/-- R67: the pixels of one byte of a TEXT image, the leftmost in the most significant bit: black luma for ink, white
luma for paper, each with a chroma byte of 128. -/
def textPixels (b : Byte) : List Byte :=
  (List.range 8).flatMap fun k => [128, if b.getLsbD (7 - k) then 16 else 235]

/-- R67: the bytes of the slot that byte n of a PHOTO image determines: a luma, or one chroma byte in each of two
rows. -/
def decodePhoto (n : Nat) (b : Byte) : List (Nat × List Byte) :=
  if n < 2073600 then [(2 * n + 1, [b])]
  else
    let k := if n < 2592000 then n - 2073600 else n - 2592000
    let first := 2 * (2 * (k / 960) * 1920 + 2 * (k % 960)) + (if n < 2592000 then 0 else 2)
    [(first, [b]), (first + 3840, [b])]

/-- R67: what a piece of an image, from an image byte on, writes into the slot that stands at `base`. -/
def decodePiece (mode : PageMode) (base start : Nat) (bytes : List Byte) : List (Nat × List Byte) :=
  match mode with
  | .text => [(base + 16 * start, bytes.flatMap textPixels)]
  | .photo => (bytes.zipIdx.flatMap fun (b, i) => decodePhoto (start + i) b).map fun (a, l) => (base + a, l)

end Sys2Proof.Machine
end

