-- ==== Sys2Proof/Machine/Outputs.lean ====
section
/-! DEFINITION. The output pipes and display control (05_projector_and_tap_outputs.md): frame starts (R78 to R82),
black output (R83 to R85), display modes and their requests (R86 to R93), presence and readiness (R94, R95), and
the pixel a pipe puts out at a place of its frame. -/

namespace Sys2Proof.Machine

/-! ## What a pipe latches -/

/-- The source kind of a slot; a slot that is shown has one. -/
def slotKindOf (s : State) (n : Nat) : SlotKind := ((s.slot n).kind).getD .sensor

/-- R42, R45: the view values latched for a source slot: the LIVE view for a SENSOR slot, the PAGE view for a page
slot. -/
def latchView (s : State) (target : Nat × Nat) (n : Nat) : ViewLatch :=
  let kind := slotKindOf s n
  let v := if kind.isPage then s.vwc.page else s.vwc.live
  { zc := v.zc, qx := v.qx, qy := v.qy, kind := kind, window := viewWindow kind target v }

/-- R44: the view values of a split reference: zoom 100 and the centre of its source. -/
def latchReference (s : State) (target : Nat × Nat) (n : Nat) : ViewLatch :=
  let kind := slotKindOf s n
  let v : ViewRecord := { zt := 100, zc := 100, qx := kind.width / 2, qy := kind.height / 2 }
  { zc := 100, qx := v.qx, qy := v.qy, kind := kind, window := viewWindow kind target v }

/-- R82: the target of each half of a split frame. -/
def halfTarget (target : Nat × Nat) : Nat × Nat := (target.1 / 2, target.2)

/-- The holder a split reference names. -/
def SplitRef.holder : SplitRef → HolderKind
  | .freeze => .freeze
  | .page => .page

/-- R81: the slot a full-frame mode is rendered from. -/
def singleSource (s : State) (mode : DisplayMode) : Option Nat :=
  match mode with
  | .frozen => holderSlot s .freeze
  | .page => holderSlot s .page
  | _ => newestReady s

/-- R79, R83: the context of a frame whose frame start found the whole of it black. DESIGN CHOICE (log 34): a BLACK
frame carries the whole-frame black mark too; R80 and R81 give its kind alone, and R84 sets the mark on NORMAL frames. -/
def blackContext : Context := { kind := .black, blackWhole := true }

/-- R80 steps 6 to 8, R81: the context a pipe latches from the display-control record as it stands. -/
def latchContext (s : State) (target : Nat × Nat) : Context :=
  match s.disp.mode, s.disp.ref with
  | .split, some ref =>
    let live := newestReady s
    let reference := holderSlot s ref.holder
    { kind := .normal, mode := some .split, ref := some ref, live := live, reference := reference
      liveView := live.map (latchView s (halfTarget target))
      refView := reference.map (latchReference s (halfTarget target))
      enh := some s.ren.enh, tone := some s.ren.active, blackLive := live.isNone, blackRef := reference.isNone }
  | mode, _ =>
    match singleSource s mode with
    | none => blackContext
    | some n =>
      { kind := .normal, mode := some mode, live := some n, liveView := some (latchView s target n)
        enh := some s.ren.enh, tone := some s.ren.active }

/-- R81: the scan set of a context: its live and reference slots. -/
def scanSet (c : Context) : List Nat := c.live.toList ++ c.reference.toList

/-- R80 steps 5 to 8: the context of a pipe that renders this frame. -/
def frameContext (s : State) (target : Nat × Nat) : Context :=
  if s.liu.doze then blackContext else latchContext s target

/-! ## Frame starts -/

/-- R78: a pending mode becomes the applied mode. -/
def applyPending {Mode : Type} (p : Pipe Mode) : Pipe Mode :=
  { p with applied := p.pending.getD p.applied, pending := none }

/-- Set the projector pipe's context and hand over its scan set. -/
def setProjectorFrame (c : Context) (s : State) : State :=
  changeScan .scanP (scanSet c) { s with opp := { s.opp with ctx := c } }

/-- Set the tap pipe's context and hand over its scan set. -/
def setTapFrame (c : Context) (s : State) : State :=
  changeScan .scanT (scanSet c) { s with opt := { s.opt with ctx := c } }

/-- R80: the projector pipe's frame start. -/
def projectorFrame (s : State) : State :=
  let s := { s with opp := applyPending s.opp }
  if s.inputs.projectorPresent then
    let s := toneSwap (glideStep s)
    setProjectorFrame (frameContext s s.opp.applied.target) s
  else setProjectorFrame {} s

/-- R75, R77: the tap's timing generator runs while its applied mode is not OFF, and from the request that leaves
it a pending mode. -/
def tapRuns (p : Pipe TapMode) : Bool := !decide (p.applied = .off) || p.pending.isSome

/-- R47, R73: at a tap frame start with the projector absent, the glide step and the tone swap are taken. -/
def tapSteps (s : State) : State := if s.inputs.projectorPresent then s else toneSwap (glideStep s)

/-- R95: a skipped frame. -/
def skipFrame (s : State) : State := setTapFrame { kind := .skipped } { s with skipped := bump s.skipped }

/-- R80: the tap pipe's frame start, with the tap-ready input as it stands. A stopped generator raises none. -/
def tapFrame (ready : Bool) (s : State) : State :=
  let s := { s with inputs := { s.inputs with tapReady := ready } }
  if tapRuns s.opt then
    let s := { s with opt := applyPending s.opt }
    if s.opt.applied = .off then setTapFrame {} s
    else
      let s := tapSteps s
      if ready then setTapFrame (frameContext s s.opt.applied.target) s else skipFrame s
  else s

/-- R84: on the entry into DOZE, the rest of a NORMAL frame is black. -/
def blackOut (c : Context) : Context := if c.kind = .normal then { c with blackWhole := true } else c

/-- R84: both pipes black out. -/
def blackOutPipes (s : State) : State :=
  { s with opp := { s.opp with ctx := blackOut s.opp.ctx }, opt := { s.opt with ctx := blackOut s.opt.ctx } }

/-- R94: the projector-present input falls. DESIGN CHOICE (log 41): the NONE context that is left has its black marks
clear. -/
def projectorFalls (s : State) : State :=
  let s := { s with inputs := { s.inputs with projectorPresent := false } }
  postAll { kind := .projectorState, contents := u8 0 } (setProjectorFrame {} s)

/-- R94: the projector-present input rises. -/
def projectorRises (s : State) : State :=
  postAll { kind := .projectorState, contents := u8 1 }
    { s with inputs := { s.inputs with projectorPresent := true } }

/-! ## Output modes -/

/-- R77: the pending mode a SET_OUTPUT leaves a pipe. -/
def pendingFor {Mode : Type} [DecidableEq Mode] (applied given : Mode) : Option Mode :=
  if given = applied then none else some given

/-- The four mode values of SET_OUTPUT, OUTPUT_CHANGED and GET_OUTPUT. -/
def outputModes (s : State) : List Byte :=
  u8 s.opp.applied.code ++ optionalField (fun m => u8 (ProjectorMode.code m)) s.opp.pending ++
    u8 s.opt.applied.code ++ optionalField (fun m => u8 (TapMode.code m)) s.opt.pending

/-- R77: SET_OUTPUT. -/
def takeSetOutput (p : PortId) (projector tap : Byte) (s : State) : State :=
  match projectorMode? projector, tapMode? tap with
  | some pm, some tm =>
    let s := { s with
      opp := { s.opp with pending := pendingFor s.opp.applied pm }
      opt := { s.opt with pending := pendingFor s.opt.applied tm } }
    let s := postOthers p { kind := .outputChanged, contents := outputModes s ++ u8 (portNumber p) } s
    answer p .ok 0x20 (outputModes s) s
  | _, _ => answer p .badParam 0x20 [] s

/-- R96: a pipe's frame kind, slots and black marks. -/
def contextField (c : Context) : List Byte :=
  u8 c.kind.code ++ optionalField u8 c.live ++ optionalField u8 c.reference ++ flagByte c.blackWhole ++
    flagByte c.blackLive ++ flagByte c.blackRef

/-- R96, R195: the tap-ready input as it stands where a request that reports it is taken (log 10). -/
def sampleTapReady (s : State) : State :=
  { s with choices := s.choices + 1, inputs := { s.inputs with tapReady := Config.tapReadyLevel s.choices } }

/-- R96: GET_OUTPUT. -/
def takeGetOutput (p : PortId) (s : State) : State :=
  let s := sampleTapReady s
  let frozen := holderSlot s .freeze
  let paged := holderSlot s .page
  answer p .ok 0x21
    (outputModes s ++ flagByte s.inputs.projectorPresent ++ flagByte s.inputs.tapReady ++ u8 s.disp.mode.code ++
      optionalField (fun r => u8 (SplitRef.code r)) s.disp.ref ++
      optionalField u8 frozen ++ optionalField u16 (frozen.bind fun n => (s.slot n).frame) ++
      optionalField u8 paged ++ optionalField u16 (paged.bind fun n => (s.slot n).page) ++
      contextField s.opp.ctx ++ contextField s.opt.ctx ++ u16 s.skipped) s

/-! ## Display control -/

/-- R93: the DISPLAY_CHANGED notice, with its cause. -/
def displayNotice (cause : List Byte) (s : State) : Notice :=
  { kind := .displayChanged
    contents := u8 s.disp.mode.code ++ optionalField (fun r => u8 (SplitRef.code r)) s.disp.ref ++
      optionalField u16 ((holderSlot s .freeze).bind fun n => (s.slot n).frame) ++
      optionalField u16 ((holderSlot s .page).bind fun n => (s.slot n).page) ++ cause }

/-- R93: whether a request changed the display mode, the split reference or the slot carrying FREEZE. -/
def displayChanged (before after : State) : Bool :=
  !decide (before.disp = after.disp) || !decide (holderSlot before .freeze = holderSlot after .freeze)

/-- R93: a display request is answered OK, and DISPLAY_CHANGED goes to the other two ports if it changed what the
outputs show. -/
def displayDone (p : PortId) (code : Byte) (before after : State) : State :=
  let s := if displayChanged before after then postOthers p (displayNotice (portCause p) after) after else after
  answer p .ok code [] s

/-- Replace the display-control record. -/
def setDisplay (mode : DisplayMode) (ref : Option SplitRef) (s : State) : State :=
  { s with disp := { mode := mode, ref := ref } }

/-- R18: the FREEZE holder goes onto a slot, leaving the slot it was on. -/
def moveFreeze (n : Nat) (s : State) : State :=
  if (s.slot n).holders.freeze then s else placeHolder .freeze n (leaveHolder .freeze s)

/-- R87: FREEZE. -/
def takeFreeze (p : PortId) (s : State) : State :=
  match newestReady s with
  | none => answer p .noFrame 0x22 [] s
  | some n => displayDone p 0x22 s (setDisplay .frozen none (moveFreeze n s))

/-- R88: SHOW_LIVE. -/
def takeShowLive (p : PortId) (s : State) : State := displayDone p 0x23 s (setDisplay .live none s)

/-- R89: the display mode after FREEZE has been released. -/
def releasedDisplay (d : Display) : Display :=
  if d.mode = .frozen ∨ (d.mode = .split ∧ d.ref = some .freeze) then { mode := .live, ref := none } else d

/-- R89: RELEASE_FREEZE. -/
def takeReleaseFreeze (p : PortId) (s : State) : State :=
  let t := leaveHolder .freeze s
  displayDone p 0x24 s { t with disp := releasedDisplay t.disp }

/-- R90: SHOW_PAGE. -/
def takeShowPage (p : PortId) (s : State) : State :=
  match holderSlot s .page with
  | none => answer p .noPage 0x25 [] s
  | some _ => displayDone p 0x25 s (setDisplay .page none s)

/-- R91: SPLIT. -/
def takeSplit (p : PortId) (reference : Byte) (s : State) : State :=
  match splitRef? reference with
  | none => answer p .badParam 0x26 [] s
  | some ref =>
    match holderSlot s ref.holder with
    | none => answer p (match ref with | .freeze => .noFrame | .page => .noPage) 0x26 [] s
    | some _ => displayDone p 0x26 s (setDisplay .split (some ref) s)

/-! ## What a pipe puts out -/

/-- R82: where a pixel of a raster stands in the frame's raster order: the raster is `target.1` wide and begins at
column `left` of a frame `full` wide. -/
def framePlace (full left : Nat) (target : Nat × Nat) (pixel : Nat) : Nat :=
  pixel / target.1 * full + left + pixel % target.1

/-- The render of one raster of a pipe's frame (R56, R82), which begins at column `left` of a frame `full` wide. Each
pixel's F is computed once, under the paper map as it stood then (R31, R61). -/
def rasterInput (s : State) (c : Context) (n : Nat) (v : ViewLatch) (target : Nat × Nat) (full left : Nat) :
    RenderInput :=
  { mem := s.mem, base := slotBase n, kind := v.kind, window := v.window, wo := target.1, ho := target.2
    enh := c.enh.getD s.ren.enh, tone := c.tone.getD s.ren.active
    paper := fun pixel => paperAt c.marks s.sst.map (framePlace full left target pixel) }

/-- A pixel of one raster, or black where the raster has no source or is marked black. -/
def rasterPixel (s : State) (c : Context) (slot : Option Nat) (view : Option ViewLatch) (black : Bool)
    (target : Nat × Nat) (full left x y : Nat) : Pixel :=
  match slot, view with
  | some n, some v => if black then blackPixel else renderPixel (rasterInput s c n v target full left) x y
  | _, _ => blackPixel

/-- R82, R83: the pixel a pipe puts out at column x and row y of its frame in the state as it stands; none in a
frame without active pixels. -/
def pipePixel (s : State) (c : Context) (target : Nat × Nat) (x y : Nat) : Option Pixel :=
  match c.kind with
  | .none => none
  | .skipped => none
  | .black => some blackPixel
  | .normal =>
    if c.blackWhole then some blackPixel
    else if c.mode = some .split then
      let half := halfTarget target
      if x < half.1 then some (rasterPixel s c c.live c.liveView c.blackLive half target.1 0 x y)
      else some (rasterPixel s c c.reference c.refView c.blackRef half target.1 half.1 (x - half.1) y)
    else some (rasterPixel s c c.live c.liveView c.blackLive target target.1 0 x y)

/-- R59, R76: the chroma and luma bytes of an active position: output pixels 2m and 2m+1 carry the Cb and the Cr of
pixel 2m with their own Y. -/
def busBytes (s : State) (c : Context) (target : Nat × Nat) (x y : Nat) : Option (Nat × Nat) :=
  match pipePixel s c target x y, pipePixel s c target (x - x % 2) y with
  | some own, some left => some (if x % 2 = 0 then left.cb else left.cr, own.y)
  | _, _ => none

/-- R76: what a pipe's 16-bit pixel bus carries at one position of a frame. -/
structure BusPosition where
  frameMark : Bool
  lineMark : Bool
  dataValid : Bool
  chroma : Nat
  luma : Nat
  deriving DecidableEq, Repr

/-- R76: the active region of a frame. -/
def activeAt (target : Nat × Nat) (x y : Nat) : Bool := decide (x < target.1) && decide (y < target.2)

/-- R76: a position of a pipe's frame on its bus: the marks, and the bytes of an active pixel or, over blanking and in
a frame without active pixels, black with data-valid low. -/
def busPosition (s : State) (c : Context) (target : Nat × Nat) (x y : Nat) : BusPosition :=
  let bytes := if activeAt target x y then busBytes s c target x y else none
  let shown := bytes.getD (blackPixel.cb, blackPixel.y)
  { frameMark := decide (x = 0 ∧ y = 0), lineMark := decide (x = 0), dataValid := bytes.isSome
    chroma := shown.1, luma := shown.2 }

/-- R76: whether a generator with these totals counts a position. -/
def counts (totals : Nat × Nat) (x y : Nat) : Bool := decide (x < totals.1) && decide (y < totals.2)

/-- R76: what the projector's bus carries at a position its generator counts. -/
def projectorBus (s : State) (x y : Nat) : Option BusPosition :=
  let mode := s.opp.applied
  if counts mode.totals x y then some (busPosition s s.opp.ctx mode.target x y) else none

/-- R75, R76: what the tap's bus carries at a position its generator counts; a stopped generator counts none. -/
def tapBus (s : State) (x y : Nat) : Option BusPosition :=
  let mode := s.opt.applied
  if counts mode.totals x y then some (busPosition s s.opt.ctx mode.target x y) else none

end Sys2Proof.Machine
end

