-- ==== Sys2Proof/Machine/Lamp.lean ====
section
/-! DEFINITION. The Lamp and Idle Unit (07_lamp_and_idle.md): the lamp period and fault (R114 to R117), the idle
timer (R118, R119), entry into DOZE and the wake (R120, R121), and their requests (R117, R123). -/

namespace Sys2Proof.Machine

/-! ## The lamp -/

/-- R115: the duty a period start latches. -/
def periodDuty (inputs : Inputs) (l : LampIdle) : Nat :=
  if l.doze || inputs.lampFault || l.latch then 0 else l.level

/-- R114, R115: a lamp period start. -/
def periodStart (s : State) : State :=
  let duty := periodDuty s.inputs s.liu
  let s' := { s with liu := { s.liu with duty := duty } }
  if duty = s.liu.duty then s' else setReseed s'

/-- R114: the counts of a lamp period. -/
def lampPeriodCounts : Nat := 1024

/-- R114: the length of a count, in nanoseconds. -/
def lampCountTime : Nat := 50

/-- R114: the lamp output at a count of the period, under the duty latched at its start: high over counts 0 to D − 1,
low from D on. -/
def lampHigh (l : LampIdle) (count : Nat) : Bool := decide (count < l.duty)

/-- R114: the lamp output over a whole period. -/
def lampPeriod (l : LampIdle) : List Bool := (List.range lampPeriodCounts).map (lampHigh l)

/-- R117: the level, the latch, the input and the applied duty. -/
def lampField (s : State) : List Byte :=
  u16 s.liu.level ++ flagByte s.liu.latch ++ flagByte s.inputs.lampFault ++ u16 s.liu.duty

/-- R117: the LAMP_STATE notice, with its cause. -/
def lampNotice (cause : List Byte) (s : State) : Notice := { kind := .lampState, contents := lampField s ++ cause }

/-- R117: the cause FAULT. -/
def faultCause : List Byte := namedCause 0

/-- R117: the cause INPUT. -/
def inputCause : List Byte := namedCause 1

/-- R116: the lamp-fault input goes active. -/
def lampFaultRises (s : State) : State :=
  let s := { s with inputs := { s.inputs with lampFault := true }, liu := { s.liu with latch := true } }
  postAll (lampNotice faultCause s) s

/-- R116: the lamp-fault input goes inactive. -/
def lampFaultFalls (s : State) : State :=
  let s := { s with inputs := { s.inputs with lampFault := false } }
  postAll (lampNotice inputCause s) s

/-- R117: SET_LAMP. -/
def takeSetLamp (p : PortId) (level : Half) (s : State) : State :=
  let l := { s.liu with level := clamp 0 1023 level.toNat, latch := s.liu.latch && s.inputs.lampFault }
  let s := { s with liu := l }
  let s := postOthers p (lampNotice (portCause p) s) s
  answer p .ok 0x38 (lampField s) s

/-! ## DOZE and the wake -/

/-- R124: the IDLE_STATE notice, with its cause and the motion count of a waking frame. -/
def idleNotice (cause : List Byte) (motion : Option Nat) (s : State) : Notice :=
  { kind := .idleState
    contents := flagByte s.liu.doze ++ cause ++ u8 s.liu.timeout ++ optionalField u16 motion }

/-- R124: the cause TIMEOUT. -/
def timeoutCause : List Byte := namedCause 0

/-- R124: the cause MOTION. -/
def motionCause : List Byte := namedCause 1

/-- R120: the part enters DOZE. DESIGN CHOICE (log 36): FOCUS_STATE is placed before IDLE_STATE; R120 gives its
effects no order. -/
def enterDoze (s : State) : State :=
  let s := blackOutPipes (focusHold { s with liu := { s.liu with doze := true } })
  postAll (idleNotice timeoutCause none s) s

/-- R121: the part wakes. -/
def wakePart (cause : List Byte) (motion : Option Nat) (s : State) : State :=
  let s := focusWake (setReseed (restartTimer { s with liu := { s.liu with doze := false } }))
  postAll (idleNotice cause motion s) s

/-- R119, R121, R187: the first part of a request's taking. -/
def requestTaken (p : PortId) (s : State) : State :=
  if s.liu.doze then wakePart (portCause p) none s else restartTimer s

/-- R119, R121: LIU takes the motion count of a publish. -/
def motionDelivered (motion : Nat) (s : State) : State :=
  if s.liu.wakeThreshold ≤ motion then
    if s.liu.doze then wakePart motionCause (some motion) s else restartTimer s
  else s

/-! ## The idle timer -/

/-- R118: a minute, in µs. -/
def minuteLength : Nat := 60000000

/-- R118: the minute count advances by one, up to 240, and the interval starts again. -/
def advanceMinute (s : State) : State :=
  let moment := s.liu.minuteFrom + minuteLength
  State.clockTo { s with liu := { s.liu with minutes := min 240 (s.liu.minutes + 1), minuteFrom := moment } } moment

/-- R118: whether the advance of the minute count brings it equal to a non-zero idle timeout. -/
def expires (l : LampIdle) : Bool := timerRuns l && !decide (l.timeout = 0) && decide (l.minutes + 1 = l.timeout)

/-- R118, R120: the minute interval reaches 60 s. A timer that does not run has no interval that could. -/
def minuteElapsed (s : State) : State :=
  if timerRuns s.liu then if expires s.liu then enterDoze (advanceMinute s) else advanceMinute s else s

/-- R118, R120: the advance of the minute count that reaches the idle timeout. -/
def idleExpiry (s : State) : State := if expires s.liu then enterDoze (advanceMinute s) else s

/-! ## Requests -/

/-- R123: SET_IDLE. -/
def takeSetIdle (p : PortId) (timeout : Half) (wakeThreshold : Option Half) (s : State) : State :=
  let l := { s.liu with
    timeout := clamp 0 240 timeout.toNat
    wakeThreshold := (wakeThreshold.map fun t => clamp 1 768 t.toNat).getD s.liu.wakeThreshold }
  answer p .ok 0x39 (u8 l.timeout ++ u16 l.wakeThreshold) { s with liu := l }

/-- R123: WAKE. -/
def takeWake (p : PortId) (s : State) : State :=
  let l := s.liu
  answer p .ok 0x05
    (flagByte l.doze ++ u8 l.timeout ++ u16 l.wakeThreshold ++ u8 l.minutes ++ flagByte l.hold ++ u16 l.level ++
      u16 l.duty ++ flagByte l.latch ++ flagByte s.inputs.lampFault) s

end Sys2Proof.Machine
end

