-- ==== Sys2Proof/Machine/Stats.lean ====
section
/-! DEFINITION. Scene Statistics (02_scene_statistics_and_the_paper_map.md): the running sums of a frame being filled
(R23), the tile statistics record (R24 to R26), the paper map (R28), the motion count (R32), the focus measure (R34)
and the statistics requests (R33, R36). -/

namespace Sys2Proof.Machine

/-! ## The accumulation -/

/-- The number of tiles. -/
def tileCount : Nat := 768

/-- R23: the sums of a tile at a frame start. -/
def emptySums : TileSums := { sum := 0, blocks := List.replicate 64 0, detail := 0 }

/-- R23: the accumulation as it begins. -/
def emptyAccumulation : List TileSums := List.replicate tileCount emptySums

/-- The distance of two luma values. -/
def lumaGap (a b : Nat) : Nat := (a - b) + (b - a)

/-- R25: the sum of the differences between neighbours of a run of luma values. -/
def neighbourGaps : List Nat → Nat
  | a :: b :: rest => lumaGap a b + neighbourGaps (b :: rest)
  | _ => 0

/-- R23 to R25: a tile takes its 128 luma values of row y of the frame. -/
def addSegment (y : Nat) (segment : List Nat) (t : TileSums) : TileSums :=
  { sum := t.sum + segment.sum
    blocks := t.blocks.zipIdx.map fun (b, k) =>
      if k / 8 = y % 128 / 16 then b + ((segment.drop (16 * (k % 8))).take 16).sum else b
    detail := if y % 4 = 0 then t.detail + neighbourGaps segment else t.detail }

/-- R23: the accumulation takes row y of the frame. -/
def addRow (y : Nat) (luma : List Nat) (acc : List TileSums) : List TileSums :=
  acc.zipIdx.map fun (t, i) =>
    if i / 32 = y / 128 then addSegment y ((luma.drop (128 * (i % 32))).take 128) t else t

/-- R23: the luma values of a row's bytes, the second and fourth of each group of four. -/
def rowLuma : List Byte → List Nat
  | _ :: y :: rest => y.toNat :: rowLuma rest
  | _ => []

/-- R24, R25: the record of one tile. -/
def tileRecord (t : TileSums) : TileStat :=
  { mean := t.sum / 16384, white := (t.blocks.map fun b => b / 256).foldl max 0, detail := t.detail / 16 }

/-! ## What a publish does -/

/-- R28: one entry of the paper map. -/
def mapEntry (reseed : Bool) (floor w white : Nat) : Nat :=
  if white < floor then w else if reseed then white else (3 * w + white + 2) / 4

/-- R28: the paper map after a publish. -/
def updateMap (reseed : Bool) (floor : Nat) (record : List TileStat) (map : List Nat) : List Nat :=
  map.zipIdx.map fun (w, i) => match record[i]? with
    | some t => mapEntry reseed floor w t.white
    | none => w

/-- R32: the motion count of a frame's means against the previous ones. -/
def motionCount (delta : Nat) (prev : Option (List Nat)) (record : List TileStat) : Nat :=
  match prev with
  | none => 0
  | some means => ((means.zip record).filter fun (m, t) => delta ≤ lumaGap m t.mean).length

/-- R34: whether a tile has a pixel inside a window. -/
def tileInside (w : Window) (tile : Nat) : Bool :=
  let c := tile % 32
  let r := tile / 32
  decide (128 * c + 1 ≤ w.x0 + w.w) && decide (w.x0 ≤ 128 * c + 127) && decide (128 * r + 1 ≤ w.y0 + w.h) &&
    decide (w.y0 ≤ 128 * r + 127)

/-- R34: the tiles that are summed. -/
def measuredTiles (w : Window) : List Nat := (List.range tileCount).filter (tileInside w)

/-- R34: the focus measure of a record over a window. -/
def focusMeasure (w : Window) (record : List TileStat) : Nat :=
  ((measuredTiles w).map fun i => ((record[i]?).map TileStat.detail).getD 0).sum

/-- R27 steps 2 to 4: the paper map, the previous means, the motion count and the reseed flag. -/
def publishStatistics (record : List TileStat) (t : Statistics) : Statistics :=
  let motion := motionCount t.delta t.prev record
  { t with
    map := updateMap t.reseed t.floor record t.map
    prev := some (record.map TileStat.mean)
    motion := some motion
    reseed := decide (192 ≤ motion) }

/-! ## Requests -/

/-- R33: SET_MOTION_DELTA. -/
def takeSetMotionDelta (p : PortId) (delta : Byte) (s : State) : State :=
  let d := clamp 1 64 delta.toNat
  answer p .ok 0x29 (u8 d) { s with sst := { s.sst with delta := d } }

/-- R36: the SUMMARY section. -/
def summaryField (s : State) : List Byte :=
  let t := s.sst
  u8 t.floor ++ u8 t.delta ++ flagByte t.reseed ++ optionalField u16 t.motion ++
    optionalField u32 (t.focus.map Prod.fst) ++ optionalField u16 (t.focus.map Prod.snd) ++
    optionalField u16 s.sin.lastFrame

/-- R36, R196: the mean, white and detail of the tiles of a row, after their count. -/
def tileRowField (record : List TileStat) (row : Nat) : List Byte :=
  entryList (fun t => u8 (TileStat.mean t) ++ u8 t.white ++ u16 t.detail) ((record.drop (32 * row)).take 32)

/-- R36, R196: the paper map entries of a part, after their count byte (log 16). -/
def mapField (map : List Nat) (part : Nat) : List Byte :=
  Config.mapCount :: ((map.drop (256 * part)).take 256).flatMap u8

/-- R36: the slot a TILES source names: NEWEST or FROZEN; none for any other source. -/
def tileSource (source : Byte) (s : State) : Option (Option Nat) :=
  match source.toNat with
  | 0 => some (newestReady s)
  | 1 => some (holderSlot s .freeze)
  | _ => none

/-- R36: the TILES section. DESIGN CHOICE (log 44): a tile row above 23 answers BAD_PARAM also where the named slot does
not exist; R36 gives that BAD_PARAM and the NO_FRAME no order. -/
def takeTiles (p : PortId) (row source : Byte) (s : State) : State :=
  if 23 < row.toNat then answer p .badParam 0x28 [] s
  else match tileSource source s with
    | none => answer p .badParam 0x28 [] s
    | some none => answer p .noFrame 0x28 [] s
    | some (some n) =>
      answer p .ok 0x28 (u16 ((s.slot n).frame.getD 0) ++ tileRowField ((s.slot n).stats.getD []) row.toNat) s

/-- R36: GET_SCENE. -/
def takeGetScene (p : PortId) (sectionByte item source : Byte) (s : State) : State :=
  match sectionByte.toNat with
  | 0 => answer p .ok 0x28 (summaryField s) s
  | 1 =>
    if 2 < item.toNat then answer p .badParam 0x28 [] s
    else answer p .ok 0x28 (mapField s.sst.map item.toNat) s
  | 2 => takeTiles p item source s
  | _ => answer p .badParam 0x28 [] s

end Sys2Proof.Machine
end

