-- ==== Sys2Proof/Machine/Intake.lean ====
section
/-! DEFINITION. The Sensor Intake (01_frame_memory_and_sensor_intake.md): the packets of the sensor link (R1 to R7),
the publish of a frame (R12, R27), link loss (R8), and the commands of the sensor link. -/

namespace Sys2Proof.Machine

/-! ## Lines -/

/-- R5: the lines of a frame. -/
def frameLines : Nat := 3072

/-- R1: the sum of the 16-bit values formed from consecutive pairs of bytes. -/
def pairSum : List Byte → Nat
  | a :: b :: rest => a.toNat * 256 + b.toNat + pairSum rest
  | _ => 0

/-- R1: whether a line is sound. -/
def lineSound (pixels : Nat) (data : List Byte) (checksum : Half) : Bool :=
  decide (pixels = 4096) && decide (data.length = 8192) && decide (checksum.toNat = pairSum data % 65536)

/-- The bytes of a row of a SENSOR slot. -/
def rowBytes : Nat := 8192

/-- Where row y of slot n stands in frame memory. -/
def rowBase (n y : Nat) : Nat := slotBase n + rowBytes * y

/-- R5: the black row written for line 0. -/
def blackRow : List Byte := (List.replicate 4096 [(128 : Byte), 16]).flatten

/-- R5: the row that conceals line y of slot n. -/
def concealingRow (n y : Nat) (s : State) : List Byte :=
  match y with
  | 0 => blackRow
  | y + 1 => memReadRun s.mem (rowBase n y) rowBytes

/-- R4, R5, R23: a row is written into the FILLING slot, SST takes its luma, and the expected line advances. -/
def writeRow (n y : Nat) (row : List Byte) (s : State) : State :=
  { s with
    mem := memWrite s.mem (rowBase n y) row
    sst := { s.sst with acc := s.sst.acc.map (addRow y (rowLuma row)) }
    sin := { s.sin with expected := y + 1 } }

/-- R6: the frame in progress is damaged. -/
def damageFrame (s : State) : State :=
  let s := match fillingNumber s with
    | some n => s.setSlot n {}
    | none => s
  { s with
    sst := { s.sst with acc := none }
    sin := { s.sin with state := .waitFrame, damaged := bump s.sin.damaged } }

/-- R5: the concealed line count of a slot. -/
def concealedCount (n : Nat) (s : State) : Nat := (s.slot n).concealed.getD 0

/-- R5: an unsound line at its expected place. -/
def concealLine (n y : Nat) (s : State) : State :=
  if 8 ≤ concealedCount n s then damageFrame s
  else
    let row := concealingRow n y s
    let s := s.setSlot n { s.slot n with concealed := some (concealedCount n s + 1) }
    writeRow n y row { s with sin := { s.sin with concealed := bump s.sin.concealed } }

/-- R4: a line packet in RECEIVING. -/
def receiveLine (line pixels : Nat) (data : List Byte) (checksum : Half) (s : State) : State :=
  if line = s.sin.expected ∧ line < frameLines then
    match fillingNumber s with
    | none => s
    | some n => if lineSound pixels data checksum then writeRow n line data s else concealLine n line s
  else damageFrame s

/-! ## Frame starts and link loss -/

/-- R9: the INTAKE_STATE notice. -/
def intakeNotice (state : IntakeState) (s : State) : Notice :=
  { kind := .intakeState, contents := u8 state.code ++ optionalField u16 s.sin.lastFrame }

/-- R3: what a frame start does before a slot is chosen. -/
def beforeFrame (s : State) : State :=
  match s.sin.state with
  | .receiving => damageFrame s
  | .noSignal => postAll (intakeNotice .receiving s) s
  | .waitFrame => s

/-- R3: slot n is taken for the frame. -/
def beginFrame (n frame : Nat) (s : State) : State :=
  let s := s.setSlot n (fillingSlot frame)
  { s with
    sst := { s.sst with acc := some emptyAccumulation }
    sin := { s.sin with state := .receiving, expected := 0, timer := some s.now } }

/-- R3: a frame-start packet. -/
def frameStart (frame : Nat) (s : State) : Result :=
  let s := beforeFrame s
  match chooseSlot s with
  | some n => .next (beginFrame n frame s)
  | none => .fault .noFrameSlot

/-- R8: the length of the link-loss timer, in µs. -/
def linkLossLength : Nat := 500000

/-- R8: the link-loss timer expires; it does not run in NO_SIGNAL. -/
def linkLoss (s : State) : State :=
  if s.sin.state = .noSignal then s
  else
    let s := (s.sin.timer.map fun t => s.clockTo (t + linkLossLength)).getD s
    let s := if (fillingNumber s).isSome then damageFrame s else s
    postAll (intakeNotice .noSignal s) { s with sin := { s.sin with state := .noSignal, timer := none } }

/-! ## The publish -/

/-- R12: the slot becomes READY with the next publish sequence and its statistics record. -/
def makeReady (n : Nat) (record : List TileStat) (s : State) : State :=
  let s := { s with fst := advanceCounter s.fst }
  s.setSlot n { s.slot n with state := .ready, seq := some s.fst.counter, stats := some record }

/-- R47, R73: at a publish with the projector absent and the tap OFF, the views reach their target zoom and a
pending tone swap is taken. -/
def publishSteps (s : State) : State :=
  if s.inputs.projectorPresent = false ∧ s.opt.applied = .off then toneSwap (glideJump s) else s

/-- R79, R82: whether a pipe renders its frame. -/
def Context.renders (c : Context) : Bool := decide (c.kind = .normal)

/-- R31, R61: a frame in progress leaves a paper map to the pixels it has computed by then (log 7). -/
def Context.mark (progress : Nat) (map : List Nat) (c : Context) : Context :=
  if c.renders then { c with marks := c.marks ++ [(progress, map)] } else c

/-- R31, R56: a save render in progress leaves a paper map to the pixels it has computed by then (log 7). -/
def Job.mark (progress : Nat) (map : List Nat) (j : Job) : Job :=
  if j.state = .rendering then { j with marks := j.marks ++ [(progress, map)] } else j

/-- R56: whether a save render or a pipe's frame is in progress. -/
def rendersNow (s : State) : Bool :=
  s.sre.jobs.any (fun j => j.state = .rendering) || s.opp.ctx.renders || s.opt.ctx.renders

/-- R31, R56, R61: the renders that run while the paper map is replaced leave the old map to the pixels they have
computed by then (log 7). -/
def markRenders (s : State) : State :=
  if rendersNow s then
    { s with
      choices := s.choices + 1
      opp := { s.opp with ctx := s.opp.ctx.mark (Config.projectorProgress s.choices) s.sst.map }
      opt := { s.opt with ctx := s.opt.ctx.mark (Config.tapProgress s.choices) s.sst.map }
      sre := { s.sre with jobs := s.sre.jobs.map (Job.mark (Config.renderProgress s.choices) s.sst.map) } }
  else s

/-- R34, R35: the focus measure is computed and delivered with the motion count. -/
def deliverMeasure (record : List TileStat) (s : State) : State :=
  let w := liveWindow s
  let measure := focusMeasure w record
  let motion := s.sst.motion.getD 0
  let s := { s with sst := { s.sst with focus := some (measure, (measuredTiles w).length) } }
  motionDelivered motion (focusPublish measure motion s)

/-- R12, R27: the publish of the frame in slot n. -/
def publishFrame (n : Nat) (s : State) : State :=
  let record := (s.sst.acc.getD []).map tileRecord
  let s := makeReady n record s
  let s := markRenders (publishSteps { s with sin := { s.sin with lastFrame := (s.slot n).frame } })
  deliverMeasure record { s with sst := { publishStatistics record s.sst with acc := none } }

/-- R7: a frame-end packet in RECEIVING. -/
def frameEnd (s : State) : State :=
  match fillingNumber s with
  | none => damageFrame s
  | some n =>
    if s.sin.expected = frameLines then publishFrame n { s with sin := { s.sin with state := .waitFrame } }
    else damageFrame s

/-! ## Commands -/

/-- FRAME_START_PACKET (R3). -/
def execFrameStartPacket (frameNumber : Half) (s : State) : Result := frameStart frameNumber.toNat s

/-- LINE_PACKET (R2, R4, R5). -/
def execLinePacket (line pixels : Nat) (data : List Byte) (checksum : Half) (s : State) : Result :=
  .next (if s.sin.state = .receiving then receiveLine line pixels data checksum s else s)

/-- FRAME_END_PACKET (R2, R7). -/
def execFrameEndPacket (s : State) : Result := .next (if s.sin.state = .receiving then frameEnd s else s)

/-- UNRECOGNISED_PACKET (R1): discarded, without effect on any state. -/
def execUnrecognisedPacket (_contents : List Byte) (s : State) : Result := .next s

/-- LINK_LOSS_TIMER_EXPIRY (R8). -/
def execLinkLossTimerExpiry (s : State) : Result := .next (linkLoss s)

end Sys2Proof.Machine
end

