-- ==== Sys2Proof/Machine/Store.lean ====
section
/-! DEFINITION. The Store Sequencer (08_store_bus_and_flash_sequencer.md): the flash profile (R127, R128), the
commands of each bus operation (R129, R130), presenting and withdrawing (R138), the arbiter (R139 to R141), and what
each end on the bus does to the device records (R132 to R137). -/

namespace Sys2Proof.Machine

/-! ## Units and addresses (R126) -/

/-- The bytes of a sector. -/
def sectorBytes : Nat := 4096

/-- The bytes of a block. -/
def blockBytes : Nat := 65536

/-- The bytes of a program page. -/
def pageBytes : Nat := 256

/-- The device a global block lies on. -/
def blockDevice (g : Nat) : DevId := if g < 4096 then .d0 else .d1

/-- The address of a global block on its device. -/
def blockAddress (g : Nat) : Nat := g % 4096 * blockBytes

/-- R126: what programming a byte leaves: the bitwise AND of the byte and the value programmed. -/
def programmedByte (old value : Byte) : Byte := old &&& value

/-- R126: what programming a run of bytes leaves. -/
def programmedBytes (old values : List Byte) : List Byte := List.zipWith programmedByte old values

/-! ## The flash profile -/

/-- The profile's entry for a command kind. -/
def Profile.entry (f : Profile) : CommandKind → CommandEntry
  | .read => f.read
  | .program => f.program
  | .writeEnable => f.writeEnable
  | .status => f.status
  | .sectorErase => f.sectorErase
  | .blockErase => f.blockErase
  | .idRead => f.idRead

/-- The profile with the entry of a command kind replaced. -/
def Profile.setEntry (f : Profile) (k : CommandKind) (e : CommandEntry) : Profile :=
  match k with
  | .read => { f with read := e }
  | .program => { f with program := e }
  | .writeEnable => { f with writeEnable := e }
  | .status => { f with status := e }
  | .sectorErase => { f with sectorErase := e }
  | .blockErase => { f with blockErase := e }
  | .idRead => { f with idRead := e }

/-- The command kinds in the order of R127's table. -/
def commandKinds : List CommandKind :=
  [.read, .program, .writeEnable, .status, .sectorErase, .blockErase, .idRead]

/-- R127: whether a command kind accepts a count of address bytes. -/
def acceptsAddress (k : CommandKind) (n : Nat) : Bool :=
  match k with
  | .writeEnable => n == 0
  | .status => n == 0
  | .idRead => n == 0 || n == 3
  | _ => n == 4

/-- R127: a lane count. -/
def laneCount (b : Byte) : Bool := b == 1 || b == 2 || b == 4

/-- R128: whether a carried lane count is one. -/
def laneFits (f : Option Byte) : Bool := (f.map laneCount).getD true

/-- R128: whether a command entry passes the checks. -/
def entryFits (e : ProfileEntry) : Bool :=
  match commandKind? e.kind with
  | none => false
  | some k => laneFits e.commandLanes && laneFits e.addressLanes && laneFits e.dataLanes &&
      (e.addressBytes.map fun n => acceptsAddress k n.toNat).getD true

/-- R128: whether a request passes every check. -/
def profileFits (fields : ProfileFields) (entries : List ProfileEntry) : Bool :=
  entries.all entryFits && (fields.busyPolarity.map fun b => b == 0 || b == 1).getD true &&
    decide ((entries.map ProfileEntry.kind).Nodup)

/-- A field that is carried, clamped, or the value it had. -/
def carried {n : Nat} (lo hi old : Nat) (f : Option (BitVec n)) : Nat :=
  (f.map fun b => clamp lo hi b.toNat).getD old

/-- R128: a command entry is taken. -/
def takeEntry (f : Profile) (e : ProfileEntry) : Profile :=
  match commandKind? e.kind with
  | none => f
  | some k =>
    let old := f.entry k
    f.setEntry k
      { code := e.code.getD old.code
        commandLanes := (e.commandLanes.map BitVec.toNat).getD old.commandLanes
        addressLanes := (e.addressLanes.map BitVec.toNat).getD old.addressLanes
        dataLanes := (e.dataLanes.map BitVec.toNat).getD old.dataLanes
        addressBytes := (e.addressBytes.map BitVec.toNat).getD old.addressBytes
        dummyCycles := carried 0 15 old.dummyCycles e.dummyCycles }

/-- R128: every field a request carries is taken. -/
def takeProfile (fields : ProfileFields) (entries : List ProfileEntry) (f : Profile) : Profile :=
  let f := { f with
    divider := carried 2 64 f.divider fields.divider
    busyBit := carried 0 7 f.busyBit fields.busyBit
    busyPolarity := (fields.busyPolarity.map BitVec.toNat).getD f.busyPolarity
    pollInterval := carried 20 1000 f.pollInterval fields.pollInterval
    programTimeout := carried 1 50 f.programTimeout fields.programTimeout
    sectorTimeout := carried 50 2000 f.sectorTimeout fields.sectorTimeout
    blockTimeout := carried 200 10000 f.blockTimeout fields.blockTimeout }
  entries.foldl takeEntry f

/-- A profile entry in an answer. -/
def entryField (e : CommandEntry) : List Byte :=
  [e.code] ++ u8 e.commandLanes ++ u8 e.addressLanes ++ u8 e.dataLanes ++ u8 e.addressBytes ++ u8 e.dummyCycles

/-- R128: the whole profile in an answer, in the order of R127's table. DESIGN CHOICE (log 16): the six fields of each
command kind stand together, one kind after the other, with no kind byte and no count byte. -/
def profileField (f : Profile) : List Byte :=
  u8 f.divider ++ (commandKinds.flatMap fun k => entryField (f.entry k)) ++ u8 f.busyBit ++ u8 f.busyPolarity ++
    u16 f.pollInterval ++ u8 f.programTimeout ++ u16 f.sectorTimeout ++ u16 f.blockTimeout

/-- R128: SET_STORE_PROFILE, its length already found to fit. -/
def takeSetStoreProfile (p : PortId) (fields : ProfileFields) (entries : List ProfileEntry) (s : State) : State :=
  if s.cat.store ≠ .unmounted then answer p .busy 0x40 [] s
  else if profileFits fields entries then
    let f := takeProfile fields entries s.ssq.profile
    answer p .ok 0x40 (profileField f) (s.modSsq fun q => { q with profile := f })
  else answer p .badParam 0x40 [] s

/-- R128: GET_STORE_PROFILE. -/
def takeGetStoreProfile (p : PortId) (s : State) : State := answer p .ok 0x41 (profileField s.ssq.profile) s

/-! ## The commands of an operation (R129, R130) -/

/-- R127, R130: the address phase of a command: four bytes of the address, three of 0x00, or none. -/
def addressPhase (n addr : Nat) : List Byte := if n = 4 then u32 addr else List.replicate n 0

/-- One command as the profile has it sent. -/
def command (e : CommandEntry) (addr : Nat) (send : List Byte) (receive : Nat) : SentCommand :=
  { code := e.code, address := addressPhase e.addressBytes addr, dummyCycles := e.dummyCycles, send := send
    receive := receive, commandLanes := e.commandLanes, addressLanes := e.addressLanes, dataLanes := e.dataLanes }

/-- R127: an entry whose lane counts do not act on the bus: one lane in every phase. -/
def CommandEntry.oneLane (e : CommandEntry) : CommandEntry :=
  { e with commandLanes := 1, addressLanes := 1, dataLanes := 1 }

/-- R127: the command kinds with a data phase. -/
def CommandKind.hasData : CommandKind → Bool
  | .read => true
  | .program => true
  | .writeEnable => false
  | .status => true
  | .sectorErase => false
  | .blockErase => false
  | .idRead => true

/-- R127: the entry of a kind as it acts on the bus. DEDUCED (log 39): the lane counts of a kind without a data phase do
not act, and its phases go on one lane, as R130's durations have them. -/
def Profile.acting (f : Profile) (k : CommandKind) : CommandEntry :=
  if k.hasData then f.entry k else (f.entry k).oneLane

/-- R129: the commands of what runs on the bus, in order. -/
def commandsOf (f : Profile) (k : RunKind) (addr : Nat) (bytes : List Byte) : List SentCommand :=
  match k with
  | .statusPoll => [command (f.acting .status) 0 [] 1]
  | .idRead => [command (f.acting .idRead) 0 [] 3]
  | .read n => [command (f.acting .read) addr [] n]
  | .program => [command (f.acting .writeEnable) 0 [] 0, command (f.acting .program) addr bytes 0]
  | .sectorErase => [command (f.acting .writeEnable) 0 [] 0, command (f.acting .sectorErase) addr [] 0]
  | .blockErase => [command (f.acting .writeEnable) 0 [] 0, command (f.acting .blockErase) addr [] 0]

/-- R130: the clocks a phase of so many bytes takes on so many lanes. -/
def phaseClocks (bytes lanes : Nat) : Nat := 8 * bytes / lanes

/-- R130: the bus clocks of a command. -/
def commandClocks (c : SentCommand) : Nat :=
  phaseClocks 1 c.commandLanes + phaseClocks c.address.length c.addressLanes + c.dummyCycles +
    phaseClocks (c.send.length + c.receive) c.dataLanes

/-- R130: the bus clocks of an operation, chip-select gaps left out. -/
def operationClocks (cs : List SentCommand) : Nat := (cs.map commandClocks).sum

/-- R127, R130: the duration of an operation in nanoseconds, at 200 MHz over the divider. -/
def operationTime (f : Profile) (cs : List SentCommand) : Nat := operationClocks cs * f.divider * 5

/-- R130: what the lanes carry at each clock of a phase: the bits of a byte in groups of the lane count, the most
significant group first. -/
def laneGroups (lanes : Nat) (b : Byte) : List Nat :=
  (List.range (8 / lanes)).map fun i => b.toNat / 2 ^ (8 - lanes * (i + 1)) % 2 ^ lanes

/-- R130: which way the bits of a phase go. -/
inductive Direction
  | send
  | receive
  deriving DecidableEq, Repr

/-- R130: the lanes a phase uses, the one that carries the least significant bit of a group first: on one lane the part
sends on lane 0 and receives on lane 1. -/
def phaseLanes (lanes : Nat) (way : Direction) : List Nat :=
  if lanes = 1 then (match way with | .send => [0] | .receive => [1]) else List.range lanes

/-- R130: each lane of a phase with the bit of a group it carries, the higher-numbered lane the more significant. -/
def laneBits (lanes : Nat) (way : Direction) (group : Nat) : List (Nat × Bool) :=
  (phaseLanes lanes way).zipIdx.map fun (lane, bit) => (lane, group.testBit bit)

/-- R130: the store bus over one period of its clock: the active chip select, whether the clock is driven, the lanes
the part drives with their bits, and the lanes it samples. -/
structure BusClock where
  select : Option DevId := none
  clocked : Bool := false
  driven : List (Nat × Bool) := []
  sampled : List Nat := []
  deriving DecidableEq, Repr

/-- R130: between two commands and between two operations: both chip selects inactive, and no clock. -/
def idleClock : BusClock := {}

/-- R130: the clocks of a phase that sends bytes. -/
def sendPhase (d : DevId) (lanes : Nat) (bytes : List Byte) : List BusClock :=
  (bytes.flatMap (laneGroups lanes)).map fun g =>
    { select := some d, clocked := true, driven := laneBits lanes .send g }

/-- R130: the clocks of a phase that receives so many bytes. -/
def receivePhase (d : DevId) (lanes bytes : Nat) : List BusClock :=
  List.replicate (phaseClocks bytes lanes) { select := some d, clocked := true, sampled := phaseLanes lanes .receive }

/-- R130: the dummy phase: no lane is driven and none is sampled. -/
def dummyPhase (d : DevId) (cycles : Nat) : List BusClock :=
  List.replicate cycles { select := some d, clocked := true }

/-- R130: the clocks of a command: its command, address, dummy and data phases, a phase with no bytes left out. -/
def commandPhases (d : DevId) (c : SentCommand) : List BusClock :=
  sendPhase d c.commandLanes [c.code] ++ sendPhase d c.addressLanes c.address ++ dummyPhase d c.dummyCycles ++
    sendPhase d c.dataLanes c.send ++ receivePhase d c.dataLanes c.receive

/-- R130: the store bus over an operation: its commands in order, the bus idle before each and after the last. -/
def operationPhases (d : DevId) (cs : List SentCommand) : List BusClock :=
  idleClock :: cs.flatMap fun c => commandPhases d c ++ [idleClock]

/-- R130: what the store bus goes through for the operation it holds; an idle bus has no chip select and no clock. -/
def busPhases (s : State) : List BusClock :=
  match s.ssq.bus with
  | some r => operationPhases r.dev r.sent
  | none => [idleClock]

/-! ## Presenting and withdrawing (R138) -/

/-- R135: whether an operation presented for a device in this state fails at once. -/
def failsAtOnce (k : OpKind) : DeviceState → Bool
  | .absent => !decide (k = .probe)
  | .faulted _ _ => !decide (k = .probe)
  | _ => false

/-- R138: a result is on its way to a client. -/
def pushResult (c : Client) (r : OpResult) (s : State) : State :=
  s.modSsq fun q => { q with results := q.results ++ [(c, r)] }

/-- R135, R138: a client presents an operation. -/
def present (c : Client) (op : BusOp) (s : State) : State :=
  if failsAtOnce op.kind (s.device op.dev).state then pushResult c .deviceFault s
  else s.modSsq fun q => { q with waiting := q.waiting ++ [{ client := c, op := op }] }

/-- R138: a BUSY record whose client no longer waits for it. -/
def orphan (c : Client) (d : Device) : Device :=
  match d.state with
  | .busy b => if b.client = some c then { d with state := .busy { b with client := none } } else d
  | _ => d

/-- R138: a client wants nothing any more: a waiting operation is withdrawn, and the result of one on the bus or of
one its device still works at is discarded. -/
def withdraw (c : Client) (s : State) : State :=
  s.modSsq fun q =>
    { q with
      waiting := q.waiting.filter fun w => !decide (w.client = c)
      results := q.results.filter fun r => !decide (r.1 = c)
      bus := q.bus.map fun r => if r.user = .client c then { r with wanted := false } else r
      d0 := orphan c q.d0
      d1 := orphan c q.d1 }

/-! ## The arbiter -/

/-- R141: whether a recall is counted as waiting for a device: some part of its page that is still to be read lies
on it. -/
def recallWaits (d : DevId) (r : Recall) : Bool := (r.blocks.drop (r.next / 16)).any fun g => blockDevice g = d

/-- A read of the recall reader or of a direct reader. -/
def readerOp (w : WaitingOp) : Bool :=
  match w.client, w.op.kind with
  | .recallReader, .read _ => true
  | .direct _, .read _ => true
  | _, _ => false

/-- R141: whether a read waits for a device. -/
def readWaits (d : DevId) (s : State) : Bool :=
  s.ssq.waiting.any (fun w => readerOp w && decide (w.op.dev = d)) || (s.sre.recalling.map (recallWaits d)).getD false

/-- R139: the states of a device in which an operation may be granted. -/
def deviceTakes (k : OpKind) : DeviceState → Bool
  | .ready => true
  | .absent => decide (k = .probe)
  | .faulted _ _ => decide (k = .probe)
  | .busy _ => false

/-- R139, R141: whether a waiting operation is eligible. -/
def eligible (w : WaitingOp) (s : State) : Bool :=
  deviceTakes w.op.kind (s.device w.op.dev).state && (!decide (w.client = .reclaim) || !readWaits w.op.dev s)

/-- R140: the direct readers, starting from the port after the one granted last. -/
def rotation : PortId → List PortId
  | .cp0 => [.cp1, .cp2, .cp0]
  | .cp1 => [.cp2, .cp0, .cp1]
  | .cp2 => [.cp0, .cp1, .cp2]

/-- R139: the clients by rank. -/
def clientOrder (last : PortId) : List Client :=
  [.mount, .writer, .recallReader] ++ (rotation last).map .direct ++ [.save, .blank, .reclaim]

/-- R139: the first eligible client operation. -/
def chooseWaiting (s : State) : Option WaitingOp :=
  (clientOrder s.ssq.lastDirect).findSome? fun c => s.ssq.waiting.find? fun w => decide (w.client = c) && eligible w s

/-- R137: what runs when an operation is granted; a probe of a FAULTED device with the unfinished flag set is a
status poll first. -/
def runKind (k : OpKind) (d : DeviceState) : RunKind :=
  match k, d with
  | .probe, .faulted _ true => .statusPoll
  | .probe, _ => .idRead
  | .read n, _ => .read n
  | .program _, _ => .program
  | .sectorErase, _ => .sectorErase
  | .blockErase, _ => .blockErase

/-- The bytes an operation programs. -/
def OpKind.bytes : OpKind → List Byte
  | .program bytes => bytes
  | _ => []

/-- Put an operation on the bus. -/
def startRun (user : BusUser) (d : DevId) (k : RunKind) (addr : Nat) (bytes : List Byte) (s : State) : State :=
  let r : Running :=
    { user := user, dev := d, kind := k, addr := addr, sent := commandsOf s.ssq.profile k addr bytes, wanted := true }
  s.modSsq fun q => { q with bus := some r }

/-- R139: a due poll or recheck is granted. -/
def grantDue (o : DueOp) (s : State) : State :=
  startRun (if o.recheck then .recheck else .poll) o.dev (if o.recheck then .idRead else .statusPoll) 0 [] s

/-- R146: the task at work has had a program granted. -/
def markGranted (s : State) : State :=
  s.modCat fun c => match c.tasks with
    | [] => c
    | t :: rest => { c with tasks := { t with granted := true } :: rest }

/-- What a grant does beside putting the operation on the bus: the direct readers' rotation (R140), the task's
granted mark (R146), and the block that becomes ERASING (R159). -/
def grantEffect (w : WaitingOp) (s : State) : State :=
  match w.client, w.op.kind with
  | .direct p, _ => s.modSsq fun q => { q with lastDirect := p }
  | .writer, .program _ => markGranted s
  | .reclaim, .blockErase =>
    s.setBlock (4096 * devNumber w.op.dev + w.op.addr / blockBytes) (some .erasing)
  | _, _ => s

/-- R139: a client operation is granted. -/
def grantWaiting (w : WaitingOp) (s : State) : State :=
  let k := runKind w.op.kind (s.device w.op.dev).state
  let s := s.modSsq fun q => { q with waiting := q.waiting.filter fun x => !decide (x.client = w.client) }
  grantEffect w (startRun (.client w.client) w.op.dev k w.op.addr w.op.kind.bytes s)

/-- R139: the arbiter gives out an idle bus. -/
def arbitrate (s : State) : State :=
  match s.ssq.bus with
  | some _ => s
  | none =>
    match s.ssq.due with
    | o :: rest => grantDue o (s.modSsq fun q => { q with due := rest })
    | [] => match chooseWaiting s with
      | some w => grantWaiting w s
      | none => s

/-! ## Device records -/

/-- The bus falls idle. -/
def freeBus (s : State) : State := s.modSsq fun q => { q with bus := none }

/-- Replace a device's state. -/
def setDeviceState (d : DevId) (x : DeviceState) (s : State) : State :=
  s.setDevice d { s.device d with state := x }

/-- R133: whether a status byte reads busy. -/
def readsBusy (f : Profile) (status : Byte) : Bool :=
  decide (status.toNat / 2 ^ f.busyBit % 2 = f.busyPolarity)

/-- R127: the timeout of an outstanding kind, in µs. -/
def Profile.timeout (f : Profile) : Outstanding → Nat
  | .program => f.programTimeout * 1000
  | .sectorErase => f.sectorTimeout * 1000
  | .blockErase => f.blockTimeout * 1000
  | .carried => f.blockTimeout * 1000

/-- The outstanding kind of what ran on the bus, for a program or an erase. -/
def RunKind.outstanding : RunKind → Option Outstanding
  | .program => some .program
  | .sectorErase => some .sectorErase
  | .blockErase => some .blockErase
  | _ => none

/-- The client that was granted the bus. -/
def BusUser.client? : BusUser → Option Client
  | .client c => some c
  | _ => none

/-- R132: a device enters BUSY as a program or erase ends on the bus. -/
def busyRecord (k : Outstanding) (r : Running) (f : Profile) (now : Nat) : BusyRecord :=
  { kind := k, client := if r.wanted then r.user.client? else none, addr := r.addr, start := now
    deadline := now + f.timeout k, late := none, nextPoll := some (now + f.pollInterval), recheck := false }

/-- R132: a program or erase ends on the bus. -/
def programEnds (k : Outstanding) (r : Running) (s : State) : State :=
  setDeviceState r.dev (.busy (busyRecord k r s.ssq.profile s.now)) (freeBus s)

/-- R135: the causes of STORE_FAULT, in order: TIMEOUT and the three of entry into FAULTED. -/
def storeFaultCause : Option FaultCause → List Byte
  | none => namedCause 0
  | some c => namedCause (1 + c.position)

/-- R135: the STORE_FAULT notice: for a declared timeout, the outstanding kind and address; the device state after
the event. -/
def storeFaultNotice (d : DevId) (cause : Option FaultCause) (op : Option BusyRecord) (s : State) : Notice :=
  { kind := .storeFault
    contents := u8 (devNumber d) ++ storeFaultCause cause ++
      optionalField (fun b => u8 (Outstanding.code (BusyRecord.kind b))) op ++
      optionalField (fun b => u32 (BusyRecord.addr b)) op ++ u8 (s.device d).state.code }

/-- R135: the operations waiting for a device that becomes FAULTED, probes apart, fail. -/
def failWaiting (d : DevId) (s : State) : State :=
  let hit : WaitingOp → Bool := fun w => decide (w.op.dev = d) && !decide (w.op.kind = .probe)
  s.modSsq fun q =>
    { q with
      results := q.results ++ (q.waiting.filter hit).map fun w => (w.client, OpResult.deviceFault)
      waiting := q.waiting.filter fun w => !hit w }

/-- R133, R134: a busy poll that changes nothing but the next poll time. -/
def pollAgain (d : DevId) (b : BusyRecord) (s : State) : State :=
  setDeviceState d (.busy { b with nextPoll := some (s.now + s.ssq.profile.pollInterval) }) s

/-- R133: a timeout is declared: the client learns it, and the device stays BUSY with the late flag set. -/
def declareTimeout (d : DevId) (b : BusyRecord) (s : State) : State :=
  let s := setDeviceState d
    (.busy { b with
      client := none
      late := some (s.now + s.ssq.profile.blockTimeout * 1000)
      nextPoll := some (s.now + s.ssq.profile.pollInterval) }) s
  match b.client with
  | some c => pushResult c .timeout s
  | none => s

/-- R133: the device is seen not busy: it becomes READY, and the client learns DONE. -/
def pollDone (d : DevId) (b : BusyRecord) (s : State) : State :=
  let s := setDeviceState d .ready s
  match b.client with
  | some c => pushResult c (.done []) s
  | none => s

/-- R134: a late device is seen not busy: an ID recheck falls due. -/
def startRecheck (d : DevId) (b : BusyRecord) (s : State) : State :=
  let s := setDeviceState d (.busy { b with late := none, nextPoll := none, recheck := true }) s
  s.modSsq fun q => { q with due := q.due ++ [{ dev := d, recheck := true }] }

/-- What the end of a status poll on a BUSY device comes to (R133, R134, R136). -/
inductive PollOutcome
  | done
  | again
  | timeout
  | recheck
  | fault (cause : FaultCause)
  deriving DecidableEq, Repr

/-- R133, R134, R136: the outcome of a poll that ended at a moment. -/
def pollOutcome (b : BusyRecord) (busy : Bool) (now : Nat) : PollOutcome :=
  match b.late with
  | none =>
    if busy = false then .done
    else if now < b.deadline then .again
    else if b.kind = .carried then .fault .carryOver
    else .timeout
  | some late =>
    if busy = false then .recheck
    else if now < late then .again
    else .fault .timeoutNoFinish

/-- R133: whether a poll of a device is due already or on the bus. -/
def pollUnderWay (d : DevId) (q : Sequencer) : Bool :=
  q.due.any (fun o => o.dev = d) || (q.bus.map fun r => decide (r.user = .poll) && decide (r.dev = d)).getD false

/-- R133: whether the poll of a device falls due at a moment: its next poll time is that moment, and no poll of it is
under way. -/
def pollDueAt (moment : Nat) (s : State) (d : DevId) : Bool :=
  match (s.device d).state with
  | .busy b => decide (b.nextPoll = some moment) && !pollUnderWay d s.ssq
  | _ => false

/-- R133, R139: the next poll time of a BUSY device is reached. The poll of a device with that same poll time falls due
in the same event, D0's first. A device that has no poll time, or whose poll is under way, has nothing that could fall
due (log 20). -/
def pollFallsDue (d : DevId) (s : State) : State :=
  match (s.device d).state with
  | .busy b =>
    match b.nextPoll with
    | some t =>
      if pollUnderWay d s.ssq then s
      else (s.clockTo t).modSsq fun q => { q with
        due := q.due ++ (([.d0, .d1] : List DevId).filter (pollDueAt t s)).map fun e => { dev := e, recheck := false } }
    | none => s
  | _ => s

/-- R137: the three bytes of a chip select with no device. -/
def noDevice (id : Byte × Byte × Byte) : Bool := decide (id = (0xFF, 0xFF, 0xFF)) || decide (id = (0, 0, 0))

/-- R137: the ID read of a mount probe ends. -/
def probeRead (d : DevId) (id : Byte × Byte × Byte) (s : State) : State :=
  s.setDevice d (if noDevice id then { state := .absent, refId := none } else { state := .ready, refId := some id })

end Sys2Proof.Machine
end

