-- ==== Sys2Proof/Machine/Catalogue.lean ====
section
/-! DEFINITION. The Catalogue Manager (09_the_catalogue_lessons_pages_and_blocks.md): record areas (R144, R196), the
tables (R146 to R149), mount and unmount (R150 to R155), the catalogue writer's tasks (R145), allocation (R156 to
R158), reclaim (R159) and the lesson and listing requests (R160 to R167). -/

namespace Sys2Proof.Machine

/-! ## Layout (R143) -/

/-- R143: whether a global block number is an image block on a present device. -/
def imageBlock (c : Catalogue) (g : Nat) : Bool :=
  if g < 4096 then c.present0 && decide (68 ≤ g) else c.present1 && decide (g < 8192)

/-- R143: the image blocks of the present devices in the scan order of R156, from 68 on. -/
def imageBlocks (c : Catalogue) : List Nat := (List.range 8192).filter (imageBlock c)

/-- R143: the sector of a page's record. -/
def pageSector (p : Nat) : Nat := 64 + p

/-- An operation on a sector of D0. -/
def sectorOp (n : Nat) (k : OpKind) : BusOp := { dev := .d0, kind := k, addr := n * sectorBytes }

/-- An operation within an image block, so many bytes from its start. -/
def blockOp (g offset : Nat) (k : OpKind) : BusOp :=
  { dev := blockDevice g, kind := k, addr := blockAddress g + offset }

/-! ## Record areas (R144, R196) -/

/-- R144: the bytes of a record area before its markers. -/
def bodyBytes : Nat := 254

/-- Bytes filled up with 0xFF to the length of a body. -/
def padBody (bytes : List Byte) : List Byte := (bytes ++ List.replicate bodyBytes 0xFF).take bodyBytes

/-- R144: the body program. -/
def bodyProgram (body : List Byte) : List Byte := body ++ [0xFF, 0xFF]

/-- R144: the commit program. -/
def commitProgram : List Byte := List.replicate bodyBytes 0xFF ++ [0x00, 0xFF]

/-- R144: the retire program. -/
def retireProgram : List Byte := List.replicate bodyBytes 0xFF ++ [0xFF, 0x00]

/-- R146, R196: the body of a lesson record. -/
def lessonBody (n : Nat) (l : Lesson) : List Byte :=
  padBody (u8 n ++ flagByte l.lock ++ u8 l.name.length ++ l.name)

/-- R147, R196: the captured view and enhancement record as bytes. -/
def capturedField (c : Captured) : List Byte :=
  [c.kind] ++ u16 c.zc.toNat ++ u16 c.cx.toNat ++ u16 c.cy.toNat ++ [c.flatten, c.sharpen, c.core, c.threshold]

/-- R175, R196: the body of a page record. -/
def pageBody (n : Nat) (g : Page) : List Byte :=
  padBody (u16 n ++ u8 g.lesson ++ u16 g.seq ++ u8 g.mode.code ++ u16 g.mode.kind.width ++ u16 g.mode.kind.height ++
    u32 g.mode.imageBytes ++ u8 g.mode.blockCount ++ u32 g.saveSeq ++ capturedField g.captured ++
    g.blocks.flatMap u16)

/-- The integer in n bytes of an area from byte i on, most significant byte first (R196). -/
def areaField (bytes : List Byte) (i n : Nat) : Nat :=
  ((bytes.drop i).take n).foldl (fun acc b => 256 * acc + b.toNat) 0

/-- R144: an erased area. -/
def areaErased (bytes : List Byte) : Bool := bytes.all fun b => b = 0xFF

/-- R144: a committed and live area. -/
def areaLive (bytes : List Byte) : Bool := decide (areaField bytes 254 2 = 0x00FF)

/-- R146: a printable character. -/
def printable (b : Byte) : Bool := decide (0x20 ≤ b.toNat) && decide (b.toNat ≤ 0x7E)

/-- R151: the name a lesson body holds, where it is one. -/
def areaName (bytes : List Byte) : Option (List Byte) :=
  let n := areaField bytes 2 1
  let name := (bytes.drop 3).take n
  if 1 ≤ n ∧ n ≤ 24 ∧ name.all printable = true then some name else none

/-- R151: the classification of lesson area n. -/
def readLesson (n : Nat) (bytes : List Byte) : Lesson :=
  if areaErased bytes then {}
  else match areaName bytes with
    | some name =>
      if areaLive bytes = true ∧ areaField bytes 0 1 = n ∧ areaField bytes 1 1 ≤ 1 then
        { state := .live, name := name, lock := decide (areaField bytes 1 1 = 1) }
      else { state := .wiped }
    | none => { state := .wiped }

/-- The 48 entries of a page body's block list (R196). -/
def areaBlocks (bytes : List Byte) : List Nat := (List.range 48).map fun i => areaField bytes (30 + 2 * i) 2

/-- The mode byte of a page body (R196). -/
def areaMode (bytes : List Byte) : PageMode := if areaField bytes 5 1 = 1 then .photo else .text

/-- The captured fields of a page body (R196). -/
def areaCaptured (bytes : List Byte) : Captured :=
  { kind := BitVec.ofNat 8 (areaField bytes 19 1), zc := BitVec.ofNat 16 (areaField bytes 20 2)
    cx := BitVec.ofNat 16 (areaField bytes 22 2), cy := BitVec.ofNat 16 (areaField bytes 24 2)
    flatten := BitVec.ofNat 8 (areaField bytes 26 1), sharpen := BitVec.ofNat 8 (areaField bytes 27 1)
    core := BitVec.ofNat 8 (areaField bytes 28 1), threshold := BitVec.ofNat 8 (areaField bytes 29 1) }

/-- R151: whether the body of page area n is consistent. -/
def areaConsistent (c : Catalogue) (n : Nat) (bytes : List Byte) : Bool :=
  let m := areaMode bytes
  let blocks := (areaBlocks bytes).take m.blockCount
  decide (areaField bytes 0 2 = n) && decide (areaField bytes 2 1 ≤ 63) && decide (1 ≤ areaField bytes 3 2) &&
    decide (areaField bytes 3 2 ≤ 999) && decide (areaField bytes 5 1 = m.code) &&
    decide (areaField bytes 6 2 = m.kind.width) && decide (areaField bytes 8 2 = m.kind.height) &&
    decide (areaField bytes 10 4 = m.imageBytes) && decide (areaField bytes 14 1 = m.blockCount) &&
    blocks.all (imageBlock c) && decide blocks.Nodup

/-- R151: the classification of page area n. The block list of a RETIRED page is whatever entries the body gives
(log 19). -/
def readPage (c : Catalogue) (n : Nat) (bytes : List Byte) : Page :=
  if areaErased bytes then {}
  else
    let g : Page :=
      { state := .retired, lesson := areaField bytes 2 1, seq := areaField bytes 3 2, mode := areaMode bytes
        blocks := (areaBlocks bytes).filter fun b => !decide (b = 0xFFFF), saveSeq := areaField bytes 15 4
        captured := areaCaptured bytes, pins := 0, mark := .done }
    if areaLive bytes && areaConsistent c n bytes then
      { g with state := .stored, blocks := (areaBlocks bytes).take g.mode.blockCount, mark := .none }
    else g

/-! ## Notices (R167) -/

/-- How many entries of a table have a property. -/
def countOf {α : Type} {n : Nat} (p : α → Bool) (v : Vector α n) : Nat := v.toList.countP p

/-- R167: the LIVE and REWRITING lessons. -/
def lessonCount (s : State) : Nat :=
  countOf (fun l => decide (l.state = .live) || decide (l.state = .rewriting)) s.cat.lessons

/-- R167: the STORED pages. -/
def storedCount (s : State) : Nat := countOf (fun g => decide (g.state = .stored)) s.cat.pages

/-- R153: the retired records: RETIRED pages and WIPED lessons. -/
def retiredCount (s : State) : Nat :=
  countOf (fun g => decide (g.state = .retired)) s.cat.pages +
    countOf (fun l => decide (l.state = .wiped)) s.cat.lessons

/-- R153: the devices the mount found absent. -/
def absentCount (c : Catalogue) : Nat := (if c.present0 then 0 else 1) + (if c.present1 then 0 else 1)

/-- A value that is present only while a condition holds. -/
def whenTrue (b : Bool) (n : Nat) : Option Nat := if b then some n else none

/-- R167: the STORE_STATE notice. -/
def storeStateNotice (recovered : Nat) (s : State) : Notice :=
  let mounted := decide (s.cat.store = .mounted)
  { kind := .storeState
    contents := u8 s.cat.store.code ++ u8 s.cat.lastMount.code ++ optionalField u8 (whenTrue mounted (lessonCount s)) ++
      optionalField u16 (whenTrue mounted (storedCount s)) ++ optionalField u8 (whenTrue mounted recovered) ++
      optionalField u16 (whenTrue mounted (retiredCount s)) ++
      optionalField u8 (whenTrue mounted (absentCount s.cat)) }

/-- R167: the results DONE, WRITE_FAILED for a timeout, and DEVICE_FAULT. -/
def OpResult.code : OpResult → Nat
  | .done _ => 0
  | .timeout => 1
  | .deviceFault => 2

/-- R167: the LESSON_CHANGED notice for a lesson. DESIGN CHOICE (log 16): the request is written as its code byte (0x4B,
0x4D or 0x4F); no rule lists its values or gives its size. -/
def lessonNotice (n : Nat) (request : Byte) (r : OpResult) (s : State) : Notice :=
  { kind := .lessonChanged
    contents := u8 n ++ [request] ++ u8 r.code ++ u8 (s.lesson n).state.code ++ nameField (s.lesson n).name ++
      flagByte (s.lesson n).lock }

/-- R167: the CATALOGUE_CHANGED notice. DESIGN CHOICE (log 16): the page has a presence byte before it, 1 for a deleted or
saved page and 0 where a create, a lock change or a wipe concerns no page. -/
def catalogueNotice (lesson : Nat) (page : Option Nat) (p : PortId) (s : State) : Notice :=
  { kind := .catalogueChanged
    contents := u8 (lessonCount s) ++ u16 (storedCount s) ++ u8 lesson ++ optionalField u16 page ++ portCause p }

/-- R167: CATALOGUE_CHANGED goes to the two ports other than the requester. -/
def catalogueChanged (lesson : Nat) (page : Option Nat) (p : PortId) (s : State) : State :=
  postOthers p (catalogueNotice lesson page p s) s

/-! ## The catalogue writer's tasks (R145) -/

/-- The sector a task writes. -/
def TaskKind.sector : TaskKind → Nat
  | .lessonCreate n _ => n
  | .lessonRewrite n _ => n
  | .pageRetire p _ => pageSector p
  | .lessonRetire n _ _ => n
  | .pageCommit p => pageSector p

/-- The body a task programs. -/
def taskBody (k : TaskKind) (s : State) : List Byte :=
  match k with
  | .lessonCreate n _ => lessonBody n (s.lesson n)
  | .lessonRewrite n _ => lessonBody n (s.lesson n)
  | .pageCommit p => pageBody p (s.page p)
  | .pageRetire _ _ => []
  | .lessonRetire _ _ _ => []

/-- R144, R145: the operation a task stands at. -/
def taskOp (t : Task) (s : State) : BusOp :=
  sectorOp t.kind.sector (match t.stage with
    | .erase => .sectorErase
    | .body => .program (bodyProgram (taskBody t.kind s))
    | .commit => .program commitProgram
    | .retire => .program retireProgram)

/-- R145: the catalogue writer presents the operation of its oldest task. -/
def presentTask (s : State) : State :=
  match s.cat.tasks with
  | [] => s
  | t :: _ => present .writer (taskOp t s) s

/-- R145: a task goes onto the end of the list, and is begun at once where it is the only one. -/
def addTask (k : TaskKind) (stage : TaskStage) (s : State) : State :=
  let begun := s.cat.tasks.isEmpty
  let s := s.modCat fun c => { c with tasks := c.tasks ++ [{ kind := k, stage := stage, granted := false }] }
  if begun then presentTask s else s

/-- R145: the operation that follows one that ended with DONE; none where it was the task's last. -/
def TaskStage.next : TaskStage → Option TaskStage
  | .erase => some .body
  | .body => some .commit
  | .commit => none
  | .retire => none

/-- R148: the page becomes RETIRED and its blocks DIRTY. -/
def retirePage (n : Nat) (s : State) : State :=
  (s.setPage n { s.page n with state := .retired }).setBlocks (s.page n).blocks .dirty

/-- R147, R148: a RETIRING page whose retire program is done becomes RETIRED once no reader pins it. -/
def settleRetired (n : Nat) (s : State) : State :=
  let g := s.page n
  if g.state = .retiring ∧ g.mark = .done ∧ g.pins = 0 then retirePage n s else s

/-- R148: a reader pins a page. -/
def pinPage (n : Nat) (s : State) : State := s.setPage n { s.page n with pins := (s.page n).pins + 1 }

/-- R148: a reader's pin is released. -/
def unpinPage (n : Nat) (s : State) : State :=
  settleRetired n (s.setPage n { s.page n with pins := (s.page n).pins - 1 })

/-- R164: the first result of a wipe that was not DONE. -/
def firstFailure (first : Option OpResult) (r : OpResult) : Option OpResult :=
  match first, r with
  | some f, _ => some f
  | none, .done _ => none
  | none, r => some r

/-- R164: the lesson retire of a wipe keeps the result of a page retire. -/
def noteWipe (lesson : Nat) (r : OpResult) (s : State) : State :=
  s.modCat fun c => { c with tasks := c.tasks.map fun t => match t.kind with
    | .lessonRetire n p first =>
      if n = lesson then { t with kind := .lessonRetire n p (firstFailure first r) } else t
    | _ => t }

/-- R147: what the end of a page's retire program does to the page. -/
def retireEnds (n : Nat) (r : OpResult) (s : State) : State :=
  match r with
  | .done _ => settleRetired n (s.setPage n { s.page n with mark := .done })
  | .timeout => s.setPage n { s.page n with state := .bad }
  | .deviceFault => s

/-- R160, R162, R164: LESSON_CHANGED goes to the requester. -/
def lessonChanged (n : Nat) (p : PortId) (request : Byte) (r : OpResult) (s : State) : State :=
  post p (lessonNotice n request r s) s

/-- R146, R160: a lesson create ends. -/
def createEnds (n : Nat) (p : PortId) (granted : Bool) (r : OpResult) (s : State) : State :=
  match r with
  | .done _ =>
    let s := s.setLesson n { s.lesson n with state := .live }
    catalogueChanged n none p (lessonChanged n p 0x4B r s)
  | _ =>
    lessonChanged n p 0x4B r (s.setLesson n (if granted then { s.lesson n with state := .wiped } else {}))

/-- R146, R162: a lesson rewrite ends: for a lock change with the requester and the flag the lesson had, for a
recovery with none. -/
def rewriteEnds (n : Nat) (change : Option (PortId × Bool)) (r : OpResult) (s : State) : State :=
  match change, r with
  | none, _ => s.setLesson n { s.lesson n with state := .live }
  | some (p, _), .done _ =>
    let s := s.setLesson n { s.lesson n with state := .live }
    catalogueChanged n none p (lessonChanged n p 0x4D r s)
  | some (p, old), _ => lessonChanged n p 0x4D r (s.setLesson n { s.lesson n with state := .live, lock := old })

/-- R164: a wipe ends. -/
def wipeEnds (n : Nat) (p : PortId) (first : Option OpResult) (r : OpResult) (s : State) : State :=
  let s := s.setLesson n { s.lesson n with state := .wiped }
  catalogueChanged n none p (lessonChanged n p 0x4F ((firstFailure first r).getD r) s)

/-! ## Mount (R150 to R153) -/

/-- The tables, the task list and the work of the reclaimer and blank checker are cleared (R154, R155, R168). -/
def clearTables (c : Catalogue) : Catalogue :=
  { Catalogue.reset with store := c.store, lastMount := c.lastMount, mount := c.mount }

/-- R151: the mount scanner presents the read of an area. -/
def presentArea (n : Nat) (s : State) : State := present .mount (sectorOp n (.read 256)) s

/-- R137: the mount scanner presents a device's probe. -/
def presentProbe (d : DevId) (s : State) : State := present .mount { dev := d, kind := .probe, addr := 0 } s

/-- Where the mount scanner stands next. -/
def setStage (stage : MountStage) (s : State) : State :=
  s.modCat fun c => { c with mount := c.mount.map fun m => { m with stage := stage } }

/-- R155: a mount begins. -/
def beginMount (requester : Option PortId) (s : State) : State :=
  presentProbe .d0 (s.modCat fun c =>
    { c with store := .mounting, mount := some { stage := .probe .d0, requester := requester } })

/-- R153: a mount fails. -/
def mountFails (r : MountResult) (s : State) : State :=
  let s := s.modCat fun c => { clearTables c with store := .unmounted, lastMount := r, mount := none }
  postAll (storeStateNotice 0 s) s

/-- R151: a device that the probe leaves READY is present. -/
def devicePresent (d : DevId) (s : State) : Bool := decide ((s.device d).state = .ready)

/-- R137, R151: the probe of a device ends. -/
def probeEnds (d : DevId) (s : State) : State :=
  match d with
  | .d0 =>
    presentProbe .d1 (setStage (.probe .d1) (s.modCat fun c => { c with present0 := devicePresent .d0 s }))
  | .d1 =>
    let s := s.modCat fun c => { c with present1 := devicePresent .d1 s }
    if s.cat.present0 then presentArea 0 (setStage (.area 0) s) else mountFails .noStore s

/-- R151: an area is classified as it is read. -/
def classifyArea (n : Nat) (bytes : List Byte) (s : State) : State :=
  if n < 64 then s.setLesson n (readLesson n bytes) else s.setPage (n - 64) (readPage s.cat (n - 64) bytes)

/-- The numbers of the STORED pages. -/
def storedPages (s : State) : List Nat := pageNumbers.filter fun n => decide ((s.page n).state = .stored)

/-- R152: whether two pages list the same block or take one sequence of one lesson. -/
def pagesConflict (a b : Page) : Bool :=
  a.blocks.any (fun g => b.blocks.contains g) || (decide (a.lesson = b.lesson) && decide (a.seq = b.seq))

/-- R152: the conflicting pairs of STORED pages, the lower number first. -/
def conflicts (s : State) : List (Nat × Nat) :=
  (storedPages s).flatMap fun p =>
    ((storedPages s).filter fun q => decide (p < q) && pagesConflict (s.page p) (s.page q)).map fun q => (p, q)

/-- R152: of a conflicting pair, the page that becomes RETIRED: the lower save sequence, and the higher number where
they are equal. -/
def duplicateLoser (pair : Nat × Nat) (s : State) : Nat :=
  let a := (s.page pair.1).saveSeq
  let b := (s.page pair.2).saveSeq
  if a < b then pair.1 else if b < a then pair.2 else max pair.1 pair.2

/-- R152: the pair the pass settles next (log 9). -/
def chosenPair (l : List (Nat × Nat)) : Option (Nat × Nat) := l[Config.duplicateChoice l % l.length]?

/-- R152: the loser of a chosen pair becomes RETIRED, and the pass goes on; with no pair it is over. DESIGN CHOICE
(log 46): its retire mark becomes DONE; R152 says nothing of the mark. -/
def retireLoser (more : State → State) (pair : Option (Nat × Nat)) (s : State) : State :=
  match pair with
  | none => s
  | some pair =>
    let n := duplicateLoser pair s
    more (s.setPage n { s.page n with state := .retired, mark := .done })

/-- R152, pass 1: repeated until no pair conflicts; each round retires one of at most 1,024 pages. -/
def resolveDuplicates : Nat → State → State
  | 0, s => s
  | fuel + 1, s => retireLoser (resolveDuplicates fuel) (chosenPair (conflicts s)) s

/-- R152: the name of a recovered lesson, "LESSON nn". -/
def recoveredName (n : Nat) : List Byte :=
  [0x4C, 0x45, 0x53, 0x53, 0x4F, 0x4E, 0x20, BitVec.ofNat 8 (0x30 + n / 10), BitVec.ofNat 8 (0x30 + n % 10)]

/-- The STORED pages of a lesson. -/
def lessonPages (n : Nat) (s : State) : List Nat := (storedPages s).filter fun p => decide ((s.page p).lesson = n)

/-- R152: lesson n is recovered where it holds a STORED page and is not LIVE. -/
def recoverLesson (s : State) (n : Nat) : State :=
  let l := s.lesson n
  if l.state = .live ∨ (lessonPages n s).isEmpty = true then s
  else
    let stage : TaskStage := if l.state = .wiped then .erase else .body
    (s.setLesson n { l with state := .rewriting, name := recoveredName n, lock := false }).modCat fun c =>
      { c with tasks := c.tasks ++ [{ kind := .lessonRewrite n none, stage := stage, granted := false }] }

/-- R152, pass 2. -/
def recoverLessons (s : State) : State := lessonNumbers.foldl recoverLesson s

/-- R153: the block map. -/
def buildBlocks (s : State) : State :=
  let s := s.modCat fun c =>
    { c with blocks := tableOf 8192 fun g => if imageBlock c g then some .unknown else none }
  let s := pageNumbers.foldl (fun s n => if (s.page n).state = .retired then
    s.setBlocks ((s.page n).blocks.filter (imageBlock s.cat)) .dirty else s) s
  (storedPages s).foldl (fun s n => s.setBlocks (s.page n).blocks .used) s

/-- R153: the page counts, with the erase-deferred flags clear. -/
def buildCounts (s : State) : State :=
  lessonNumbers.foldl (fun s n =>
    s.setLesson n { s.lesson n with count := (lessonPages n s).length, deferred := false }) s

/-- R153: the save sequence counter. -/
def nextSaveSequence (s : State) : Nat :=
  1 + (pageNumbers.map fun n =>
    if (s.page n).state ≠ .empty ∧ (s.page n).saveSeq < Config.maxSequence then (s.page n).saveSeq else 0).foldl max 0

/-- R153: the mount completes; the catalogue writer then begins the recovered lessons. -/
def mountCompletes (s : State) : State :=
  let s := buildCounts (buildBlocks s)
  let seq := nextSaveSequence s
  let s := s.modCat fun c =>
    { c with
      store := .mounted, lastMount := .mounted, mount := none, cursor := some 68, reserved := some 0
      saveSeq := some seq }
  presentTask (postAll (storeStateNotice s.cat.tasks.length s) s)

/-- R152, R153: the last area has been read. -/
def mountResolves (s : State) : State := mountCompletes (recoverLessons (resolveDuplicates 1024 s))

/-- R151: the read of area n ends. -/
def areaRead (n : Nat) (bytes : List Byte) (s : State) : State :=
  let s := classifyArea n bytes s
  if n + 1 < 1088 then presentArea (n + 1) (setStage (.area (n + 1)) s) else mountResolves s

/-- R151: a read of the mount scanner ends with a result. A read does not time out. -/
def mountResult (r : OpResult) (s : State) : State :=
  match s.cat.mount.map Mount.stage with
  | some (.area n) => match r with
    | .done bytes => areaRead n bytes s
    | .deviceFault => mountFails .deviceFault s
    | .timeout => s
  | _ => s

/-! ## Allocation (R156 to R158) -/

/-- Whether a device is FAULTED. -/
def deviceFaulted (d : DevId) (s : State) : Bool :=
  match (s.device d).state with
  | .faulted _ _ => true
  | _ => false

/-- R156: the blocks an allocation scans, from the cursor on. -/
def scanBlocks (s : State) : List Nat :=
  let l := (imageBlocks s.cat).filter fun g => !deviceFaulted (blockDevice g) s
  let cursor := s.cat.cursor.getD 68
  (l.filter fun g => decide (cursor ≤ g)) ++ (l.filter fun g => decide (g < cursor))

/-- R156: the first block in scan order in a state. -/
def firstBlock (x : BlockState) (s : State) : Option Nat :=
  (scanBlocks s).find? fun g => decide (s.block g = some x)

/-- R156: the next image block in scan order. DESIGN CHOICE (log 42): the cursor goes by the devices that are present,
also where the next block's device is FAULTED and the scan leaves it out. -/
def blockAfter (c : Catalogue) (g : Nat) : Nat :=
  if g + 1 = 8192 ∨ (g + 1 = 4096 ∧ c.present1 = false) then 68 else g + 1

/-- How a step of an allocation leaves it: with a block, still in progress, or with STORE_FULL. -/
inductive Allocated
  | block (g : Nat)
  | later
  | full
  deriving DecidableEq, Repr

/-- Replace the allocation in progress. -/
def setAlloc (a : Allocation) (s : State) : State := s.modCat fun c => { c with alloc := a }

/-- R156, step 1: a block is taken. -/
def takeBlock (g : Nat) (s : State) : Allocated × State :=
  let s := s.setBlock g (some .used)
  (.block g, s.modCat fun c => { c with alloc := .idle, cursor := some (blockAfter c g) })

/-- R157: the read a blank check stands at. -/
def checkRead (g n : Nat) (s : State) : Allocated × State :=
  (.later, present .blank (blockOp g (4096 * n) (.read 4096)) (setAlloc (.checking g n) s))

/-- R156, steps 3 and 4: no FREE and no UNKNOWN block exists. -/
def waitForErase (s : State) : Allocated × State :=
  if (scanBlocks s).any fun g => decide (s.block g = some .dirty) || decide (s.block g = some .erasing) then
    (.later, setAlloc .waiting s)
  else (.full, setAlloc .idle s)

/-- R156: an allocation from step 1 on. -/
def allocate (s : State) : Allocated × State :=
  match firstBlock .free s with
  | some g => takeBlock g s
  | none => match firstBlock .unknown s with
    | some g => checkRead g 0 s
    | none => waitForErase s

/-- R156, step 2: the scan goes on with the next UNKNOWN block; where none is left it starts again (log 17). -/
def continueScan (s : State) : Allocated × State :=
  match firstBlock .unknown s with
  | some g => checkRead g 0 s
  | none => allocate s

/-- R157: a read of the blank check ends. A read does not time out. -/
def checkEnds (r : OpResult) (s : State) : Allocated × State :=
  match s.cat.alloc with
  | .checking g n => match r with
    | .done bytes =>
      if bytes.all (fun b => b = 0xFF) then
        if n + 1 = 16 then takeBlock g (s.setBlock g (some .free)) else checkRead g (n + 1) s
      else continueScan (s.setBlock g (some .dirty))
    | _ => continueScan s
  | _ => (.later, s)

/-- R158: the available count. -/
def availableCount (s : State) : Nat :=
  ((imageBlocks s.cat).filter fun g => !deviceFaulted (blockDevice g) s &&
    (decide (s.block g = some .free) || decide (s.block g = some .unknown) || decide (s.block g = some .dirty) ||
      decide (s.block g = some .erasing))).length

/-- R158: the reservation check. -/
def reservationFits (blocks : Nat) (s : State) : Bool := decide (s.cat.reserved.getD 0 + blocks ≤ availableCount s)

/-- R158: the reservation count rises. -/
def reserve (blocks : Nat) (s : State) : State :=
  s.modCat fun c => { c with reserved := c.reserved.map (· + blocks) }

/-- R158: blocks are given back to, or taken from, the reservation count. -/
def unreserve (blocks : Nat) (s : State) : State :=
  s.modCat fun c => { c with reserved := c.reserved.map (· - blocks) }

/-! ## Reclaim (R159) -/

/-- R159: whether a sector wants erasing: a RETIRED page's, or a WIPED lesson's whose erase is not deferred. -/
def sectorWaits (n : Nat) (s : State) : Bool :=
  if n < 64 then decide ((s.lesson n).state = .wiped) && !(s.lesson n).deferred
  else decide ((s.page (n - 64)).state = .retired)

/-- R159: the next item, those on a FAULTED device passed over. -/
def nextItem (s : State) : Option ReclaimItem :=
  let sectorItem := if deviceFaulted .d0 s then none else (List.range 1088).find? fun n => sectorWaits n s
  match sectorItem with
  | some n => some (.sector n)
  | none => ((imageBlocks s.cat).find? fun g =>
      decide (s.block g = some .dirty) && !deviceFaulted (blockDevice g) s).map .block

/-- The erase of an item. -/
def ReclaimItem.op : ReclaimItem → BusOp
  | .sector n => sectorOp n .sectorErase
  | .block g => blockOp g 0 .blockErase

/-- R159: the reclaimer chooses an item in any event that gives it work while it has none. -/
def kickReclaim (s : State) : State :=
  if s.cat.store = .mounted ∧ s.cat.reclaim = none then
    match nextItem s with
    | some i => present .reclaim i.op (s.modCat fun c => { c with reclaim := some i })
    | none => s
  else s

/-- R159: what the end of an erase does to its item. -/
def itemEnds (i : ReclaimItem) (r : OpResult) (s : State) : State :=
  match i, r with
  | .sector n, .done _ => if n < 64 then s.setLesson n {} else s.setPage (n - 64) {}
  | .sector n, .timeout =>
    if n < 64 then s.setLesson n { s.lesson n with deferred := true }
    else s.setPage (n - 64) { s.page (n - 64) with state := .bad }
  | .sector _, .deviceFault => s
  | .block g, .done _ => s.setBlock g (some .free)
  | .block g, .timeout => s.setBlock g (some .bad)
  | .block g, .deviceFault => s.setBlock g (some .dirty)

/-! ## Requests -/

/-- R150: a store request other than MOUNT and STORE_STATUS goes on only while the store is MOUNTED. -/
def whenMounted (p : PortId) (code : Byte) (s : State) (k : State → State) : State :=
  match s.cat.store with
  | .unmounted => answer p .notMounted code [] s
  | .mounting => answer p .notReady code [] s
  | .mounted => k s

/-- R150: MOUNT. -/
def takeMount (p : PortId) (s : State) : State :=
  match s.cat.store with
  | .unmounted =>
    let s := beginMount (some p) s
    answer p .accepted 0x48 [] (postOthers p (storeStateNotice 0 s) s)
  | .mounting => answer p .busy 0x48 [] s
  | .mounted => answer p .already 0x48 [] s

/-- R154: whether work of the store is in flight. -/
def storeInUse (s : State) : Bool :=
  !s.sre.jobs.isEmpty || s.sre.recalling.isSome || s.cp0.direct.isSome || s.cp1.direct.isSome || s.cp2.direct.isSome ||
    !s.cat.tasks.isEmpty || s.cat.lessons.toList.any fun l => decide (l.state = .rewriting)

/-- Every port's current lesson is lost where it meets a condition. -/
def dropLessons (hit : Nat → Bool) (s : State) : State :=
  let drop (q : Port) : Port := { q with lesson := q.lesson.filter fun n => !hit n }
  { s with cp0 := drop s.cp0, cp1 := drop s.cp1, cp2 := drop s.cp2 }

/-- R154: the store is unmounted. -/
def unmountStore (s : State) : State :=
  let s := s.modCat fun c => { clearTables c with store := .unmounted }
  withdraw .blank (withdraw .reclaim (dropLessons (fun _ => true) s))

/-- R154: UNMOUNT. -/
def takeUnmount (p : PortId) (s : State) : State :=
  whenMounted p 0x49 s fun s =>
    if storeInUse s then answer p .busy 0x49 [] s
    else
      let s := unmountStore s
      postOthers p (storeStateNotice 0 s) (answer p .ok 0x49 [] s)

/-- R160: the lowest EMPTY lesson. -/
def emptyLesson (s : State) : Option Nat := lessonNumbers.find? fun n => decide ((s.lesson n).state = .empty)

/-- R160: NEW_LESSON, its length already found to fit. DEDUCED (log 48): the name is checked before the table, as R160
names the two refusals. -/
def takeNewLesson (p : PortId) (name : List Byte) (s : State) : State :=
  whenMounted p 0x4B s fun s =>
    if name.isEmpty || !name.all printable then answer p .badParam 0x4B [] s
    else match emptyLesson s with
      | none => answer p .catalogueFull 0x4B [] s
      | some n =>
        let l : Lesson := { state := .rewriting, name := name.take 24 }
        let s := addTask (.lessonCreate n p) .body (s.setLesson n l)
        answer p .accepted 0x4B (u8 n ++ nameField l.name) s

/-- R161: the port's current lesson in an answer. -/
def currentLesson (p : PortId) (s : State) : List Byte := optionalField u8 (s.port p).lesson

/-- R161: SELECT_LESSON; 0xFF is NONE. -/
def takeSelectLesson (p : PortId) (lesson : Byte) (s : State) : State :=
  whenMounted p 0x4C s fun s =>
    let set (l : Option Nat) : State :=
      let s := s.modPort p fun q => { q with lesson := l }
      answer p .ok 0x4C (currentLesson p s) s
    if lesson = 0xFF then set none
    else match (s.lesson lesson.toNat).state with
      | .live => set (some lesson.toNat)
      | .rewriting => answer p .busy 0x4C [] s
      | _ => answer p .noSuchLesson 0x4C [] s

/-- R162: SET_LESSON_LOCK. -/
def takeSetLessonLock (p : PortId) (lesson lock : Byte) (s : State) : State :=
  whenMounted p 0x4D s fun s =>
    let n := lesson.toNat
    let l := s.lesson n
    let flag := !decide (lock = 0)
    match l.state with
    | .rewriting => answer p .busy 0x4D [] s
    | .live =>
      if flag = l.lock then answer p .ok 0x4D [] s
      else
        let s := s.setLesson n { l with state := .rewriting, lock := flag }
        answer p .accepted 0x4D [] (addTask (.lessonRewrite n (some (p, l.lock))) .erase s)
    | _ => answer p .noSuchLesson 0x4D [] s

/-- R163: a STORED page enters RETIRING. -/
def startRetire (n : Nat) (s : State) : State := s.setPage n { s.page n with state := .retiring, mark := .pending }

/-- R163: a lesson's page count falls by one. -/
def dropCount (n : Nat) (s : State) : State := s.setLesson n { s.lesson n with count := (s.lesson n).count - 1 }

/-- R163: DELETE_PAGE. DESIGN CHOICE (log 38): a lesson that is both locked and REWRITING answers LESSON_LOCKED; R163
and R146 give the two refusals no order. -/
def takeDeletePage (p : PortId) (page : Half) (s : State) : State :=
  whenMounted p 0x4E s fun s =>
    let n := page.toNat
    let g := s.page n
    if g.state ≠ .stored then answer p .noSuchPage 0x4E [] s
    else if (s.lesson g.lesson).lock then answer p .lessonLocked 0x4E [] s
    else if (s.lesson g.lesson).state = .rewriting then answer p .busy 0x4E [] s
    else
      let s := addTask (.pageRetire n none) .retire (dropCount g.lesson (startRetire n s))
      catalogueChanged g.lesson (some n) p (answer p .ok 0x4E [] s)

/-- Insert a page into a list that is in sequence order. -/
def insertBySeq (s : State) (p : Nat) : List Nat → List Nat
  | [] => [p]
  | q :: rest => if (s.page p).seq ≤ (s.page q).seq then p :: q :: rest else q :: insertBySeq s p rest

/-- The STORED pages of a lesson in sequence order (R164, R165). -/
def orderedPages (n : Nat) (s : State) : List Nat := (lessonPages n s).foldr (insertBySeq s) []

/-- R164: the wipe of a lesson begins: every page is retired, and then the lesson. -/
def startWipe (n : Nat) (p : PortId) (s : State) : State :=
  let pages := orderedPages n s
  let s := dropLessons (fun m => decide (m = n)) (s.setLesson n { s.lesson n with state := .rewriting, count := 0 })
  let s := pages.foldl (fun s g => addTask (.pageRetire g (some n)) .retire (startRetire g s)) s
  addTask (.lessonRetire n p none) .retire s

/-- R164: WIPE_LESSON. DEDUCED (log 48): the refusals apply in the order in which R164 names them. -/
def takeWipeLesson (p : PortId) (lesson : Byte) (s : State) : State :=
  whenMounted p 0x4F s fun s =>
    let n := lesson.toNat
    match (s.lesson n).state with
    | .rewriting => answer p .busy 0x4F [] s
    | .live =>
      if (s.lesson n).lock then answer p .lessonLocked 0x4F [] s
      else if s.sre.jobs.any fun j => decide (j.lesson = n) then answer p .busy 0x4F [] s
      else answer p .accepted 0x4F [] (startWipe n p s)
    | _ => answer p .noSuchLesson 0x4F [] s

/-- R165: a lesson that is listed. -/
def listedLesson (l : Lesson) : Bool := decide (l.state = .live) || decide (l.state = .rewriting)

/-- R165: an entry of LIST_LESSONS. -/
def lessonEntry (s : State) (n : Nat) : List Byte :=
  let l := s.lesson n
  u8 n ++ u8 l.state.code ++ nameField l.name ++ flagByte l.lock ++ u16 l.count

/-- R165: up to 8 entries, and whether a further one exists. -/
def listing (entry : Nat → List Byte) (l : List Nat) : List Byte :=
  entryList entry (l.take 8) ++ flagByte (decide (8 < l.length))

/-- R165: LIST_LESSONS. -/
def takeListLessons (p : PortId) (start : Byte) (s : State) : State :=
  whenMounted p 0x50 s fun s =>
    let l := lessonNumbers.filter fun n => decide (start.toNat ≤ n) && listedLesson (s.lesson n)
    answer p .ok 0x50 (listing (lessonEntry s) l) s

/-- R165: an entry of LIST_PAGES. -/
def pageEntry (s : State) (n : Nat) : List Byte :=
  let g := s.page n
  u16 n ++ u16 g.seq ++ u8 g.mode.code ++ u32 g.saveSeq ++ capturedField g.captured

/-- R165: LIST_PAGES. -/
def takeListPages (p : PortId) (lesson : Byte) (start : Half) (s : State) : State :=
  whenMounted p 0x51 s fun s =>
    if listedLesson (s.lesson lesson.toNat) then
      let l := (orderedPages lesson.toNat s).filter fun n => decide (start.toNat ≤ (s.page n).seq)
      answer p .ok 0x51 (listing (pageEntry s) l) s
    else answer p .noSuchLesson 0x51 [] s

/-! ## STORE_STATUS (R166) -/

/-- A device's state, fault cause and reference ID. -/
def deviceField (d : Device) : List Byte :=
  u8 d.state.code ++
    optionalField (fun c => namedCause (FaultCause.position c)) (match d.state with
      | .faulted c _ => some c
      | _ => none) ++
    optionalField (fun id => [Prod.fst id, id.2.1, id.2.2]) d.refId

/-- How many blocks are in a state. -/
def blockCount (x : BlockState) (s : State) : Nat := countOf (fun b => decide (b = some x)) s.cat.blocks

/-- How many lessons are in a state. -/
def lessonsIn (x : LessonState) (s : State) : Nat := countOf (fun l => decide (Lesson.state l = x)) s.cat.lessons

/-- How many pages are in a state. -/
def pagesIn (x : PageState) (s : State) : Nat := countOf (fun g => decide (Page.state g = x)) s.cat.pages

/-- Counts that are present while the store is MOUNTED. -/
def mountedCounts (write : Nat → List Byte) (l : List Nat) (s : State) : List Byte :=
  l.flatMap fun n => optionalField write (whenTrue (decide (s.cat.store = .mounted)) n)

/-- R166: the reclaimer's current item. DESIGN CHOICE (log 16): one byte, 0 for a sector and 1 for a block, and the
number in two bytes; no rule gives its layout. -/
def itemField : ReclaimItem → List Byte
  | .sector n => u8 0 ++ u16 n
  | .block g => u8 1 ++ u16 g

/-- R169: whether a job is in WRITING or COMMITTING, where the fields of the writing are present. -/
def Job.writes (j : Job) : Bool := decide (j.state = .writing) || decide (j.state = .committing)

/-- R169: a save job in STORE_STATUS. -/
def jobField (j : Job) : List Byte :=
  u8 j.state.code ++ u8 (portNumber j.requester) ++ u16 j.page ++ u8 j.lesson ++ u8 j.mode.code ++
    optionalField u8 (whenTrue j.writes j.done) ++ u8 j.mode.blockCount ++
    optionalField u8 (whenTrue j.writes j.relocations)

/-- R166: STORE_STATUS. -/
def takeStoreStatus (p : PortId) (s : State) : State :=
  let c := s.cat
  answer p .ok 0x4A
    (u8 c.store.code ++ u8 c.lastMount.code ++ deviceField s.ssq.d0 ++ deviceField s.ssq.d1 ++
      mountedCounts u16 ([BlockState.free, .unknown, .used, .dirty, .erasing, .bad].map fun x => blockCount x s) s ++
      optionalField u16 c.reserved ++ optionalField u16 c.cursor ++ optionalField u32 c.saveSeq ++
      mountedCounts u8 ([LessonState.empty, .live, .rewriting, .wiped].map fun x => lessonsIn x s) s ++
      mountedCounts u16
        ([PageState.empty, .writing, .stored, .retiring, .retired, .bad].map fun x => pagesIn x s) s ++
      u16 c.tasks.length ++ optionalField itemField c.reclaim ++ entryList jobField s.sre.jobs) s

end Sys2Proof.Machine
end

