-- ==== Sys2Proof/Machine/SaveRecall.lean ====
section
/-! DEFINITION. The Save and Recall Engine (10_saving_and_recalling_pages.md): save jobs (R169 to R177), the recall
(R178 to R181) and direct reads (R182, R183). -/

namespace Sys2Proof.Machine

/-! ## Jobs -/

/-- Change the job that saves a page. -/
def modJob (page : Nat) (f : Job → Job) (s : State) : State :=
  { s with sre := { s.sre with jobs := s.sre.jobs.map fun j => if j.page = page then f j else j } }

/-- Whether a save buffer is held by a job. -/
def bufferHeld (b : Nat) (s : State) : Bool := s.sre.jobs.any fun j => decide (j.buffer = some b)

/-- R172: the lower-numbered free save buffer. -/
def freeBuffer (s : State) : Option Nat := [0, 1].find? fun b => !bufferHeld b s

/-- R172: whether a job is in RENDERING. -/
def rendering (s : State) : Bool := s.sre.jobs.any fun j => decide (j.state = .rendering)

/-- Change the first job that satisfies a test: the oldest, since the list stands in the order of acceptance. -/
def modFirst (hit : Job → Bool) (f : Job → Job) : List Job → List Job
  | [] => []
  | j :: rest => if hit j then f j :: rest else j :: modFirst hit f rest

/-- R172: the oldest PENDING job enters RENDERING when a buffer is free and no job renders. -/
def kickRender (s : State) : State :=
  match freeBuffer s with
  | some b =>
    if rendering s then s
    else { s with sre := { s.sre with
      jobs := modFirst (fun j => decide (j.state = .pending))
        (fun j => { j with state := .rendering, buffer := some b }) s.sre.jobs } }
  | none => s

/-- R173: the job the save writer serves: the oldest in WRITING. -/
def servedJob (s : State) : Option Job := s.sre.jobs.find? fun j => decide (j.state = .writing)

/-- R173: the job's block list, which is the block list of its page as well. -/
def setJobBlocks (page : Nat) (blocks : List Nat) (s : State) : State :=
  modJob page (fun j => { j with blocks := blocks }) (s.setPage page { s.page page with blocks := blocks })

/-- R173: the programs of the block at a position of an image. -/
def programsIn (mode : PageMode) (position : Nat) : Nat :=
  min 256 ((mode.imageBytes - blockBytes * position) / pageBytes)

/-- R173: the bytes of a program of the image in a job's buffer. -/
def programBytes (j : Job) (s : State) : List Byte :=
  memReadRun s.mem (saveBufferBase (j.buffer.getD 0) + blockBytes * j.done + pageBytes * j.nextPage) pageBytes

/-- R173: the save writer presents the next program of a job. -/
def presentProgram (j : Job) (s : State) : State :=
  present .save (blockOp (j.blocks.getD j.done 0) (pageBytes * j.nextPage) (.program (programBytes j s))) s

/-- The record of the job that saves a page. -/
def jobOf (page : Nat) (s : State) : Option Job := s.sre.jobs.find? fun j => decide (j.page = page)

/-- R156, R173: the allocation gives the served job a block: it joins the job's list, the reservation falls while the
job has one left, and the block's first program is presented. -/
def blockTaken (j : Job) (g : Nat) (s : State) : State :=
  let used := if 0 < j.remaining then 1 else 0
  let s := unreserve used (setJobBlocks j.page (j.blocks ++ [g]) s)
  let s := modJob j.page (fun j => { j with nextPage := 0, remaining := j.remaining - used }) s
  match jobOf j.page s with
  | some j => presentProgram j s
  | none => s

/-- R176: why a save job fails. -/
inductive SaveFailure
  | writeFailed
  | storeFull
  | deviceFault
  deriving DecidableEq, Repr

/-- R176: the reasons in the rule's order. -/
def SaveFailure.code : SaveFailure → Nat
  | .writeFailed => 0
  | .storeFull => 1
  | .deviceFault => 2

/-- R175, R176: a job leaves the list: its remaining reservation is given back and its buffer freed, and a PENDING
job may begin to render. -/
def endJob (j : Job) (s : State) : State :=
  let s := unreserve j.remaining s
  kickRender { s with sre := { s.sre with jobs := s.sre.jobs.filter fun k => !decide (k.page = j.page) } }

/-- R176: what becomes of the page number and the blocks of a failed job. -/
def abandonPage (j : Job) (x : PageState) (s : State) : State :=
  match x with
  | .bad => s.setPage j.page { s.page j.page with state := .bad }
  | .empty => (s.setPage j.page {}).setBlocks j.blocks .dirty
  | x => (s.setPage j.page { s.page j.page with state := x }).setBlocks j.blocks .dirty

/-- R176: a job fails, its page number going to a state. -/
def failJob (j : Job) (x : PageState) (r : SaveFailure) (s : State) : State :=
  let s := endJob j (abandonPage j x s)
  updateHold (post j.requester
    { kind := .saveFailed, contents := u8 j.lesson ++ u16 j.page ++ u8 r.code } s)

/-- R173, R176: the save writer asks for a block for the job it serves, and turns to the next job where the
allocation ends with STORE_FULL. `fuel` is the number of jobs it may turn to. -/
def serve : Nat → (Allocated × State) → State
  | 0, a => a.2
  | fuel + 1, (a, s) =>
    match a, servedJob s with
    | .block g, some j => blockTaken j g s
    | .full, some j =>
      let s := failJob j .empty .storeFull s
      match servedJob s with
      | some _ => serve fuel (allocate s)
      | none => s
    | _, _ => s

/-- The jobs the save writer may turn to in one event. -/
def serveFuel : Nat := 5

/-- R173: the save writer asks for a block for the job it now serves, where there is one. -/
def serveNext (s : State) : State :=
  match servedJob s with
  | some _ => serve serveFuel (allocate s)
  | none => s

/-- R156: a waiting allocation resumes. -/
def resumeAllocation (s : State) : State :=
  match s.cat.alloc with
  | .waiting => serve serveFuel (allocate s)
  | _ => s

/-- R172: the window of a job's captured view. -/
def jobWindow (j : Job) : Window :=
  windowOf j.view.kind.width j.view.kind.height j.mode.target.1 j.mode.target.2 j.view.zc j.view.cx j.view.cy

/-- R56, R172: the render of a job from its source slot. -/
def jobRender (j : Job) (slot : Nat) (s : State) : RenderInput :=
  { mem := s.mem, base := slotBase slot, kind := j.view.kind, window := jobWindow j, wo := j.mode.target.1
    ho := j.mode.target.2, enh := j.enh, tone := j.tone, paper := paperAt j.marks s.sst.map }

/-- R172: the image stands in the job's buffer (log 8), and the save holder leaves the source slot. -/
def finishRender (j : Job) (s : State) : State :=
  match j.source with
  | none => s
  | some (slot, holder) =>
    let image := saveImage j.mode (jobRender j slot s)
    dropHolder holder.kind slot { s with mem := memWrite s.mem (saveBufferBase (j.buffer.getD 0)) image }

/-- R172: the save render in progress ends. -/
def renderEnds (s : State) : State :=
  match s.sre.jobs.find? (fun j => decide (j.state = .rendering)) with
  | none => s
  | some j =>
    let idle := (servedJob s).isNone
    let s := modJob j.page (fun j => { j with
      state := .writing, source := none, blocks := [], done := 0, nextPage := 0, relocations := 0, marks := [] })
      (finishRender j s)
    let s := kickRender s
    if idle then serveNext s else s

/-- R173: a program of the job has completed: the next is presented, the next position is asked for, or the job
enters COMMITTING. -/
def programDone (j : Job) (s : State) : State :=
  if j.nextPage + 1 < programsIn j.mode j.done then
    let j := { j with nextPage := j.nextPage + 1 }
    presentProgram j (modJob j.page (fun _ => j) s)
  else
    let s := modJob j.page (fun j => { j with done := j.done + 1 }) s
    if j.done + 1 < j.mode.blockCount then serveNext s
    else
      let s := modJob j.page (fun j => { j with state := .committing }) s
      serveNext (addTask (.pageCommit j.page) .body s)

/-- R174: a program of the job has timed out: its block becomes BAD and the position is written again elsewhere, or
the job fails. -/
def programTimeout (j : Job) (s : State) : State :=
  let s := s.setBlock (j.blocks.getD j.done 0) (some .bad)
  let s := setJobBlocks j.page (j.blocks.take j.done) s
  if j.relocations < 2 then
    serveNext (modJob j.page (fun j => { j with relocations := j.relocations + 1, nextPage := 0 }) s)
  else serveNext (failJob { j with blocks := j.blocks.take j.done } .empty .writeFailed s)

/-- R173, R174: the save writer learns the result of a program. -/
def saveResult (r : OpResult) (s : State) : State :=
  match servedJob s with
  | none => s
  | some j => match r with
    | .done _ => programDone j s
    | .timeout => programTimeout j s
    | .deviceFault => serveNext (failJob j .empty .deviceFault s)

/-- R157: a read of the blank check ends. -/
def blankResult (r : OpResult) (s : State) : State := serve serveFuel (checkEnds r s)

/-- R175: the page commit ends with DONE. -/
def commitDone (j : Job) (s : State) : State :=
  let s := s.setPage j.page { s.page j.page with state := .stored }
  let s := s.setLesson j.lesson { s.lesson j.lesson with count := (s.lesson j.lesson).count + 1 }
  let s := endJob j s
  let s := post j.requester
    { kind := .saveDone, contents := u16 j.page ++ u8 j.lesson ++ u16 j.seq } s
  updateHold (catalogueChanged j.lesson (some j.page) j.requester s)

/-- R175, R176: a page commit task ends. -/
def commitEnds (page : Nat) (granted : Bool) (r : OpResult) (s : State) : State :=
  match jobOf page s with
  | none => s
  | some j => match r with
    | .done _ => commitDone j s
    | .timeout => failJob j .bad .writeFailed s
    | .deviceFault => failJob j (if granted then .retired else .empty) .deviceFault s

/-- R146: the erase-deferred flag of a lesson is set when its sector erase times out. -/
def deferErase (n : Nat) (t : Task) (r : OpResult) (s : State) : State :=
  if t.stage = .erase ∧ r = .timeout then s.setLesson n { s.lesson n with deferred := true } else s

/-- R145: a task ends with the outcome its own rule gives. -/
def taskEnds (t : Task) (r : OpResult) (s : State) : State :=
  match t.kind with
  | .lessonCreate n p => createEnds n p t.granted r s
  | .lessonRewrite n change => rewriteEnds n change r (deferErase n t r s)
  | .pageRetire n wipe =>
    let s := retireEnds n r s
    match wipe with
    | some l => noteWipe l r s
    | none => s
  | .lessonRetire n p first => wipeEnds n p first r s
  | .pageCommit page => commitEnds page t.granted r s

/-- R145: the list goes on with its next task. -/
def endTask (t : Task) (r : OpResult) (s : State) : State :=
  presentTask (taskEnds t r (s.modCat fun c => { c with tasks := c.tasks.drop 1 }))

/-- R145: the catalogue writer learns the result of its operation. -/
def writerResult (r : OpResult) (s : State) : State :=
  match s.cat.tasks with
  | [] => s
  | t :: rest => match r, t.stage.next with
    | .done _, some stage => presentTask (s.modCat fun c => { c with tasks := { t with stage := stage } :: rest })
    | _, _ => endTask t r s

/-- R156, R159: the reclaimer learns the result of its erase. -/
def reclaimResult (r : OpResult) (s : State) : State :=
  match s.cat.reclaim with
  | none => s
  | some i =>
    let s := itemEnds i r (s.modCat fun c => { c with reclaim := none })
    match i with
    | .block _ => resumeAllocation s
    | .sector _ => s

/-! ## SAVE_PAGE -/

/-- R171: the source slot of a save, from the display mode. -/
def saveSource (s : State) : Option Nat :=
  match s.disp.mode with
  | .live => newestReady s
  | .split => newestReady s
  | .frozen => holderSlot s .freeze
  | .page => holderSlot s .page

/-- R53: the captured view of a save. -/
def captureView (mode : PageMode) (slot : Nat) (s : State) : SavedView :=
  let kind := slotKindOf s slot
  let v := activeView s
  let w := viewWindow kind mode.target v
  { kind := kind, zc := v.zc, cx := w.cx, cy := w.cy }

/-- R147, R196: the captured view and enhancement record as the page record body holds them. -/
def capturedRecord (v : SavedView) (e : Enhance) : Captured :=
  { kind := BitVec.ofNat 8 v.kind.code, zc := BitVec.ofNat 16 v.zc, cx := BitVec.ofNat 16 v.cx
    cy := BitVec.ofNat 16 v.cy, flatten := if e.flatten then 0 else 1, sharpen := BitVec.ofNat 8 e.sharpen
    core := BitVec.ofNat 8 e.core, threshold := BitVec.ofNat 8 e.threshold }

/-- R171: the pages of a lesson that count toward its highest sequence: STORED and WRITING. -/
def countedPages (lesson : Nat) (s : State) : List Nat :=
  pageNumbers.filter fun n =>
    decide ((s.page n).lesson = lesson) && (decide ((s.page n).state = .stored) || decide ((s.page n).state = .writing))

/-- R170, R171: the highest sequence among a lesson's STORED and WRITING pages, 0 where it has none. -/
def highestPageSeq (lesson : Nat) (s : State) : Nat :=
  ((countedPages lesson s).map fun n => (s.page n).seq).foldl max 0

/-- R170: the lowest EMPTY page number. -/
def emptyPage (s : State) : Option Nat := pageNumbers.find? fun n => decide ((s.page n).state = .empty)

/-- R170: whether a job holds a frame slot. -/
def Job.holdsSlot (j : Job) : Bool := decide (j.state = .pending) || decide (j.state = .rendering)

/-- What a save takes when every check has passed. -/
structure SaveGrant where
  mode : PageMode
  lesson : Nat
  slot : Nat
  page : Nat
  deriving DecidableEq, Repr

/-- R170: the checks in the order of the table, the first that fails refusing the request. -/
def checkSave (p : PortId) (mode : Byte) (s : State) : Except Status SaveGrant :=
  match s.cat.store with
  | .unmounted => .error .notMounted
  | .mounting => .error .notReady
  | .mounted =>
    match pageMode? mode with
    | none => .error .badParam
    | some m =>
      match (s.port p).lesson with
      | none => .error .noLesson
      | some l =>
        if (s.lesson l).state = .rewriting then .error .busy
        else if (s.lesson l).lock then .error .lessonLocked
        else if 4 ≤ s.sre.jobs.length then .error .busy
        else if 2 ≤ (s.sre.jobs.filter Job.holdsSlot).length then .error .busy
        else match saveSource s with
          | none => .error .noFrame
          | some slot =>
            match emptyPage s with
            | none => .error .catalogueFull
            | some page =>
              if 999 ≤ highestPageSeq l s then .error .lessonFull
              else if reservationFits m.blockCount s then
                .ok { mode := m, lesson := l, slot := slot, page := page }
              else .error .storeFull

/-- R171: the job of an accepted save. -/
def newJob (p : PortId) (g : SaveGrant) (s : State) : Job :=
  { state := .pending, requester := p, lesson := g.lesson, page := g.page, seq := highestPageSeq g.lesson s + 1
    saveSeq := s.cat.saveSeq.getD 1, mode := g.mode, source := some (g.slot, freeSaveHolder s)
    view := captureView g.mode g.slot s, enh := s.ren.enh, tone := s.ren.active, buffer := none, blocks := []
    done := 0, nextPage := 0, relocations := 0, remaining := g.mode.blockCount, marks := [] }

/-- R171: the page a save takes. -/
def writingPage (j : Job) : Page :=
  { state := .writing, lesson := j.lesson, seq := j.seq, mode := j.mode, saveSeq := j.saveSeq
    captured := capturedRecord j.view j.enh }

/-- R171: the save sequence counter after a save. -/
def advanceSaveSeq (n : Nat) : Nat := if n = Config.maxSequence then n else n + 1

/-- R171: an accepted save. -/
def acceptSave (p : PortId) (g : SaveGrant) (s : State) : State :=
  let j := newJob p g s
  let s := placeHolder (freeSaveHolder s).kind g.slot s
  let s := reserve g.mode.blockCount (s.setPage g.page (writingPage j))
  let s := s.modCat fun c => { c with saveSeq := c.saveSeq.map advanceSaveSeq }
  let s := kickRender (updateHold { s with sre := { s.sre with jobs := s.sre.jobs ++ [j] } })
  answer p .accepted 0x58 (u16 j.page ++ u8 j.lesson ++ u16 j.seq) s

/-- R170, R171: SAVE_PAGE. -/
def takeSavePage (p : PortId) (mode : Byte) (s : State) : State :=
  match checkSave p mode s with
  | .error status => answer p status 0x58 [] s
  | .ok g => acceptSave p g s

/-! ## Recall -/

/-- R179: the pieces of an image. -/
def pieceCount (mode : PageMode) : Nat := (mode.imageBytes + 4095) / 4096

/-- R179: the bytes of a piece. -/
def pieceBytes (mode : PageMode) (k : Nat) : Nat := min 4096 (mode.imageBytes - 4096 * k)

/-- R179: the recall reader presents the piece its record stands at. -/
def presentPiece (r : Recall) (s : State) : State :=
  present .recallReader (blockOp (r.blocks.getD (r.next / 16) 0) (4096 * (r.next % 16)) (.read (pieceBytes r.mode r.next))) s

/-- Replace the recall record; the hold follows it. -/
def setRecall (r : Option Recall) (s : State) : State := { s with sre := { s.sre with recalling := r } }

/-- R178, R181: the recall in flight ends without completing: its read is withdrawn or its result discarded, its
LOADING slot becomes FREE and its pin is released. -/
def dropRecall (r : Recall) (s : State) : State :=
  setRecall none (unpinPage r.page ((withdraw .recallReader s).setSlot r.slot {}))

/-- R178: a recall in flight is superseded. -/
def supersede (s : State) : State :=
  match s.sre.recalling with
  | none => s
  | some r =>
    post r.requester { kind := .recallSuperseded, contents := u16 r.page } (dropRecall r s)

/-- R181: the recall in flight fails. -/
def recallFails (r : Recall) (s : State) : State :=
  updateHold (post r.requester { kind := .recallFailed, contents := u16 r.page ++ u8 0 } (dropRecall r s))

/-- R19: the loaded slot becomes READY with a new publish sequence, and the PAGE holder moves onto it. -/
def showLoaded (n : Nat) (s : State) : State :=
  let s := { s with fst := advanceCounter s.fst }
  let s := s.setSlot n { s.slot n with state := .ready, seq := some s.fst.counter }
  placeHolder .page n (leaveHolder .page s)

/-- R54, R93: the cause RECALL. -/
def recallCause : List Byte := namedCause 0

/-- R180: whether the recalled page is being shown. -/
def pageShown (d : Display) : Bool := decide (d.mode = .page) || (decide (d.mode = .split) && decide (d.ref = some .page))

/-- R52, R92, R180: the slot, the PAGE view and the display take the recalled page. DESIGN CHOICE (log 45):
DISPLAY_CHANGED joins each port's queue before VIEW_CHANGED; R54, R93 and R180 give the two no order. -/
def pageArrives (r : Recall) (s : State) : State :=
  let s := resetPageView r.mode (showLoaded r.slot s)
  let s := if r.display then setDisplay .page none s else s
  postAll (viewNotice recallCause s) (postAll (displayNotice recallCause s) s)

/-- R180: the recall completes. -/
def recallCompletes (r : Recall) (s : State) : State :=
  let s := unpinPage r.page (pageArrives r s)
  let s := post r.requester
    { kind := .recallDone, contents := u16 r.page ++ u8 r.slot ++ flagByte (pageShown s.disp) } s
  updateHold (setRecall none s)

/-- R67, R179: a piece ends with its bytes: they are decoded into the LOADING slot, and the next is presented or the
recall completes. -/
def pieceRead (bytes : List Byte) (r : Recall) (s : State) : State :=
  let s := { s with mem := memWriteAll s.mem (decodePiece r.mode (slotBase r.slot) (4096 * r.next) bytes) }
  let r' := { r with next := r.next + 1 }
  if r'.next < pieceCount r.mode then presentPiece r' (setRecall (some r') s) else recallCompletes r s

/-- R179, R181: the recall reader learns the result of its read. A read does not time out. -/
def recallResult (res : OpResult) (s : State) : State :=
  match s.sre.recalling with
  | none => s
  | some r => match res with
    | .done bytes => pieceRead bytes r s
    | .deviceFault => recallFails r s
    | .timeout => s

/-- R19, R178: the recall that a RECALL_PAGE starts in a slot. -/
def startRecall (p : PortId) (page : Nat) (display : Bool) (slot : Nat) (s : State) : State :=
  let g := s.page page
  let r : Recall :=
    { page := page, mode := g.mode, blocks := g.blocks, requester := p, display := display, slot := slot, next := 0 }
  let s := (pinPage page s).setSlot slot (loadingSlot g.mode page)
  let s := updateHold (presentPiece r (setRecall (some r) s))
  answer p .accepted 0x59 (u16 page ++ u8 slot) s

/-- R178: RECALL_PAGE. DEDUCED (log 48): show is checked before the page, as R178 names the two refusals. -/
def takeRecallPage (p : PortId) (page : Half) (display : Byte) (s : State) : Result :=
  match s.cat.store with
  | .unmounted => .next (answer p .notMounted 0x59 [] s)
  | .mounting => .next (answer p .notReady 0x59 [] s)
  | .mounted =>
    match yesNo? display with
    | none => .next (answer p .badParam 0x59 [] s)
    | some show? =>
      if (s.page page.toNat).state ≠ .stored then .next (answer p .noSuchPage 0x59 [] s)
      else
        let s := supersede s
        match chooseSlot s with
        | none => .fault .noFrameSlot
        | some slot => .next (startRecall p page.toNat show? slot s)

/-! ## Direct reads -/

/-- Replace a port's direct-read record. -/
def setDirect (p : PortId) (d : Option DirectRead) (s : State) : State :=
  s.modPort p fun q => { q with direct := d }

/-- R182: a port's direct reader presents the next read of its record: the bytes that are left, up to the end of the
block they begin in. -/
def presentDirect (p : PortId) (d : DirectRead) (s : State) : State :=
  let start := d.offset + d.got.length
  let n := min (d.length - d.got.length) (blockBytes - start % blockBytes)
  present (.direct p) (blockOp ((s.page d.page).blocks.getD (start / blockBytes) 0) (start % blockBytes) (.read n)) s

/-- R183: a direct read ends: its pin is released, the record becomes empty, and the request is answered. -/
def directEnds (p : PortId) (d : DirectRead) (result : List Byte) (s : State) : State :=
  answer p .ok 0x5A (u16 d.page ++ u32 d.offset ++ u16 d.length ++ result) (setDirect p none (unpinPage d.page s))

/-- R182, R183: a port's direct reader learns the result of its read. A read does not time out. DESIGN CHOICE (log 47):
a DEVICE_FAULT of the first of two parts ends the direct read with that result, and the second part is not presented;
R140, R182 and R183 do not say what follows the first part's fault. -/
def directResult (p : PortId) (r : OpResult) (s : State) : State :=
  match (s.port p).direct with
  | none => s
  | some d => match r with
    | .done bytes =>
      let d := { d with got := d.got ++ bytes }
      if d.got.length < d.length then presentDirect p d (setDirect p (some d) s)
      else directEnds p d (u8 0 ++ d.got) s
    | .deviceFault => directEnds p d (u8 1) s
    | .timeout => s

/-- R183, R193: a port reset abandons the port's direct read. -/
def abandonDirect (p : PortId) (s : State) : State :=
  match (s.port p).direct with
  | none => s
  | some d => setDirect p none (unpinPage d.page (withdraw (.direct p) s))

/-- R182: READ_PAGE_DATA. -/
def takeReadPageData (p : PortId) (page : Half) (offset : Quad) (length : Half) (s : State) : State :=
  whenMounted p 0x5A s fun s =>
    let n := page.toNat
    let g := s.page n
    if g.state ≠ .stored then answer p .noSuchPage 0x5A [] s
    else if g.mode.imageBytes ≤ offset.toNat then answer p .badParam 0x5A [] s
    else
      let d : DirectRead :=
        { page := n, offset := offset.toNat
          length := min (clamp 1 256 length.toNat) (g.mode.imageBytes - offset.toNat), got := [] }
      presentDirect p d (setDirect p (some d) (pinPage n s))

end Sys2Proof.Machine
end

