-- ==== Sys2Proof/Machine/Events.lean ====
section
/-! DEFINITION. How a result reaches its client (R138), how a device becomes FAULTED (R135), and the closing of an
event that concerns the store: results delivered, reclaim chosen, the bus given out (R139, R159). -/

namespace Sys2Proof.Machine

/-- R138: a client learns a result. -/
def deliver (c : Client) (r : OpResult) (s : State) : State :=
  match c with
  | .mount => mountResult r s
  | .writer => writerResult r s
  | .recallReader => recallResult r s
  | .direct p => directResult p r s
  | .save => saveResult r s
  | .blank => blankResult r s
  | .reclaim => reclaimResult r s

/-- R138: the results of an event reach their clients, in order; a client may present again, and a device that is
FAULTED fails what it presents in the same event (R135, log 18). -/
def drain : Nat → State → State
  | 0, s => s
  | fuel + 1, s =>
    match s.ssq.results with
    | [] => s
    | (c, r) :: rest => drain fuel (deliver c r (s.modSsq fun q => { q with results := rest }))

/-- More results than one event can bring: each of at most 1,088 tasks ends once, and the other clients have a few. -/
def drainFuel : Nat := 4096

/-- Every result reaches its client. -/
def drainAll (s : State) : State := drain drainFuel s

/-- R139, R159: an event closes: results are delivered, the reclaimer chooses, and the arbiter gives out the bus. -/
def close (s : State) : State := arbitrate (kickReclaim (drainAll s))

/-- R135: a recall counted as waiting for a device that becomes FAULTED fails. -/
def failRecallFor (d : DevId) (s : State) : State :=
  match s.sre.recalling with
  | some r => if recallWaits d r then recallFails r s else s
  | none => s

/-- R135: a device becomes FAULTED. DESIGN CHOICE (log 18): STORE_FAULT is posted after the notices of the clients that
learn of it in the same event. -/
def becomeFaulted (d : DevId) (cause : FaultCause) (unfinished : Bool) (s : State) : State :=
  let s := drainAll (failWaiting d (setDeviceState d (.faulted cause unfinished) s))
  let s := resumeAllocation (failRecallFor d s)
  postAll (storeFaultNotice d (some cause) none s) s

/-- R133, R135: a timeout is declared. DESIGN CHOICE (log 18): STORE_FAULT is posted after the notices of the client that
learns of it in the same event. -/
def timeoutDeclared (d : DevId) (b : BusyRecord) (s : State) : State :=
  let s := drainAll (declareTimeout d b s)
  postAll (storeFaultNotice d none (some b) s) s

/-- R133, R134, R136: the end of a status poll of a BUSY device. -/
def pollEnds (d : DevId) (busy : Bool) (s : State) : State :=
  match (s.device d).state with
  | .busy b =>
    match pollOutcome b busy s.now with
    | .done => pollDone d b s
    | .again => pollAgain d b s
    | .timeout => timeoutDeclared d b s
    | .recheck => startRecheck d b s
    | .fault cause => becomeFaulted d cause true s
  | _ => s

/-- R137: the status poll of a mount probe ends: not busy, the ID read follows; busy, the device stays FAULTED. -/
def probePollEnds (d : DevId) (busy : Bool) (s : State) : State :=
  if busy then probeEnds d s
  else match (s.device d).state with
    | .faulted cause _ => presentProbe d (setDeviceState d (.faulted cause false) s)
    | _ => presentProbe d s

/-- R134: the ID recheck ends. -/
def recheckEnds (d : DevId) (id : Byte × Byte × Byte) (s : State) : State :=
  if (s.device d).refId = some id then setDeviceState d .ready s else becomeFaulted d .idChanged false s

/-- R138: a read ends on the bus, and its client learns the bytes if it still wants them. -/
def readEnds (r : Running) (bytes : List Byte) (s : State) : State :=
  match r.user with
  | .client c => if r.wanted then pushResult c (.done bytes) s else s
  | _ => s

end Sys2Proof.Machine
end

