-- ==== Sys2Proof/Machine/Ports.lean ====
section
/-! DEFINITION. The Control Ports (11_control_ports.md): the requests the ports own (R190, R191, R194, R195), resets
(R193, R194), the taking of requests (R186, R187) and what closes an event of the store. -/

namespace Sys2Proof.Machine

/-! ## Requests of the ports -/

/-- R187: BAD_REQUEST: the received code is echoed, with no data. -/
def takeBadRequest (p : PortId) (code : Byte) (s : State) : State := answer p .badRequest code [] s

/-- R195, R196: the STATUS answer data. -/
def statusField (p : PortId) (s : State) : List Byte :=
  u8 s.sin.state.code ++ flagByte s.inputs.projectorPresent ++ flagByte s.inputs.tapReady ++ u8 s.disp.mode.code ++
    flagByte s.liu.doze ++ u16 s.liu.duty ++ flagByte s.liu.latch ++ flagByte s.inputs.lampFault ++
    u8 s.foc.mode.code ++ u8 s.foc.state.code ++ u8 s.cat.store.code ++ u8 s.ssq.d0.state.code ++
    u8 s.ssq.d1.state.code ++ u16 s.sin.damaged ++ u16 s.sin.concealed ++ u16 s.skipped ++
    u8 (s.port p).discarded ++ flagByte (s.port p).lost

/-- R195: STATUS, with the tap-ready input as it stands where it is taken; the lost-notice flag is cleared after its
value has gone into the answer. -/
def takeStatus (p : PortId) (s : State) : State :=
  let s := sampleTapReady s
  answer p .ok 0x01 (statusField p s) (s.modPort p fun q => { q with lost := false })

/-- R196: a notice in a NEXT_NOTICE answer, after the number left. -/
def noticeField (left : Nat) (n : Notice) : List Byte := u8 left ++ u8 n.kind.value ++ u8 n.contents.length ++ n.contents

/-- R190: NEXT_NOTICE. -/
def takeNextNotice (p : PortId) (s : State) : State :=
  match (s.port p).notices with
  | [] => answer p .none 0x02 [] s
  | n :: rest => answer p .ok 0x02 (noticeField rest.length n) (s.modPort p fun q => { q with notices := rest })

/-- R191: SET_ATTENTION_MARK. -/
def takeSetAttentionMark (p : PortId) (mark : Byte) (s : State) : State :=
  let m := clamp 0 15 mark.toNat
  answer p .ok 0x03 (u8 m) (s.modPort p fun q => { q with mark := m })

/-! ## Resets -/

/-- R194, R196: the DEVICE_RESET notice of cause REQUEST. -/
def requestNotice (p : PortId) : Notice := { kind := .deviceReset, contents := namedCause 1 ++ u8 (portNumber p) }

/-- R125: LIU after a device reset: the settings are kept, the latch follows the input, and the period start of the
reset latches the kept level unless the input is active. -/
def resetLamp (now : Nat) (input : Bool) (l : LampIdle) : LampIdle :=
  { LampIdle.reset now with
    level := l.level
    timeout := l.timeout
    wakeThreshold := l.wakeThreshold
    latch := input
    duty := if input then 0 else l.level }

/-- R155: whether a device reset starts a mount by itself. -/
def mountsAgain (c : Catalogue) : Bool := !decide (c.store = .unmounted)

/-- R194: every block takes its device-reset values: R9, R22, R37, R55, R74, R97, R113, R125, R142, R168, R184, R192. -/
def resetBlocks (p : PortId) (s : State) : State :=
  { s with
    sin := Intake.reset s.now
    fst := FrameStore.reset
    sst := { Statistics.reset with floor := s.sst.floor, delta := s.sst.delta }
    vwc := Views.reset
    ren := { s.ren with swap := false }
    opp := { applied := s.opp.applied, pending := none, ctx := {} }
    opt := { applied := s.opt.applied, pending := none, ctx := {} }
    disp := { mode := .live, ref := none }
    skipped := 0
    foc := { Focus.reset with threshold := s.foc.threshold }
    liu := resetLamp s.now s.inputs.lampFault s.liu
    ssq := Sequencer.reset s.now s.ssq.profile
    cat := { Catalogue.reset with lastMount := s.cat.lastMount }
    sre := SaveRecall.reset
    cp0 := Port.reset s.now (requestNotice p) s.cp0.pins
    cp1 := Port.reset s.now (requestNotice p) s.cp1.pins
    cp2 := Port.reset s.now (requestNotice p) s.cp2.pins }

/-- R155, R194: a device reset requested through a port. -/
def deviceReset (p : PortId) (s : State) : State :=
  if mountsAgain s.cat then beginMount none (resetBlocks p s) else resetBlocks p s

/-- R193: a port after its reset input has become active, with the transaction that was in progress cut off. -/
def clearedPort (transfer : Option Transaction) : Port :=
  { requests := [], answers := [], notices := [], lost := false, discarded := 0, mark := 0, lesson := none, tone := 0
    direct := none, busy := true, busyFrom := none, resetInput := true
    transfer := transfer.map Transaction.cutOff }

/-- R193: a port's reset input becomes active. -/
def resetPort (p : PortId) (s : State) : State :=
  (abandonDirect p s).setPort p (clearedPort (s.port p).transfer)

/-- R193: the length of the busy interval, in µs. -/
def busyLength : Nat := 2000

/-- R193: a port's reset input becomes inactive, and the busy interval runs from there. -/
def releasePort (p : PortId) (s : State) : State :=
  if (s.port p).resetInput then
    s.modPort p fun q => { q with resetInput := false, busy := true, busyFrom := some s.now }
  else s

/-! ## The taking of requests -/

/-- What a request does once it is taken, its code and length checked (R187); a command that is no request does
nothing here. Requests that give the store work close it in their own event. -/
def takeInstr (i : Instr) (s : State) : Result :=
  match i with
  | .badRequest p code _ => .next (takeBadRequest p code s)
  | .status p => .next (takeStatus p s)
  | .nextNotice p => .next (takeNextNotice p s)
  | .setAttentionMark p mark => .next (takeSetAttentionMark p mark s)
  | .resetDevice p => .next (deviceReset p s)
  | .wake p => .next (takeWake p s)
  | .setView p zoom qx qy => .next (takeSetView p zoom qx qy s)
  | .nudgeView p z dx dy => .next (takeNudgeView p z dx dy s)
  | .setGlide p rate => .next (takeSetGlide p rate s)
  | .getView p => .next (takeGetView p s)
  | .setEnhance p f sh c t fl => .next (takeSetEnhance p f sh c t fl s)
  | .getEnhance p => .next (takeGetEnhance p s)
  | .loadTone p start values => .next (takeLoadTone p start values s)
  | .loadToneNext p values => .next (takeLoadToneNext p values s)
  | .commitTone p => .next (takeCommitTone p s)
  | .getTone p bank start count => .next (takeGetTone p bank start count s)
  | .setOutput p pm tm => .next (takeSetOutput p pm tm s)
  | .getOutput p => .next (takeGetOutput p s)
  | .freeze p => .next (takeFreeze p s)
  | .showLive p => .next (takeShowLive p s)
  | .releaseFreeze p => .next (takeReleaseFreeze p s)
  | .showPage p => .next (takeShowPage p s)
  | .split p r => .next (takeSplit p r s)
  | .getScene p sec item src => .next (takeGetScene p sec item src s)
  | .setMotionDelta p d => .next (takeSetMotionDelta p d s)
  | .focusAuto p t => .next (takeFocusAuto p t s)
  | .focusManual p pos => .next (takeFocusManual p pos s)
  | .setFocusLink p a => .next (takeSetFocusLink p a s)
  | .getFocus p => .next (takeGetFocus p s)
  | .setLamp p l => .next (takeSetLamp p l s)
  | .setIdle p t w => .next (takeSetIdle p t w s)
  | .setStoreProfile p f es => .next (takeSetStoreProfile p f es s)
  | .getStoreProfile p => .next (takeGetStoreProfile p s)
  | .mount p => .next (close (takeMount p s))
  | .unmount p => .next (takeUnmount p s)
  | .storeStatus p => .next (takeStoreStatus p s)
  | .newLesson p name => .next (close (takeNewLesson p name s))
  | .selectLesson p l => .next (takeSelectLesson p l s)
  | .setLessonLock p l f => .next (close (takeSetLessonLock p l f s))
  | .deletePage p g => .next (close (takeDeletePage p g s))
  | .wipeLesson p l => .next (close (takeWipeLesson p l s))
  | .listLessons p l => .next (takeListLessons p l s)
  | .listPages p l st => .next (takeListPages p l st s)
  | .savePage p m => .next (takeSavePage p m s)
  | .recallPage p g d => andThen (takeRecallPage p g d s) fun s => .next (close s)
  | .readPageData p g o l => .next (close (takeReadPageData p g o l s))
  | .frameStartPacket _ => .next s
  | .linePacket _ _ _ _ => .next s
  | .frameEndPacket => .next s
  | .unrecognisedPacket _ => .next s
  | .linkLossTimerExpiry => .next s
  | .projectorFrameStart => .next s
  | .tapFrameStart _ => .next s
  | .projectorPresentFall => .next s
  | .projectorPresentRise => .next s
  | .lensTransactionEnd _ _ _ => .next s
  | .lensClockHoldTimeout => .next s
  | .lampPeriodStart => .next s
  | .lampFaultActive => .next s
  | .lampFaultInactive => .next s
  | .minuteIntervalElapsed => .next s
  | .idleTimerExpiry => .next s
  | .pollDue _ => .next s
  | .statusPollEnd _ _ => .next s
  | .programEraseBusEnd _ => .next s
  | .readEnd _ => .next s
  | .idRecheckEnd _ _ _ => .next s
  | .probeIdReadEnd _ _ _ => .next s
  | .saveRenderEnd => .next s
  | .poll _ _ => .next s
  | .sendRequest _ _ => .next s
  | .fetchAnswer _ _ => .next s
  | .unknownTransactionType _ _ _ => .next s
  | .portReset _ => .next s
  | .portResetRelease _ => .next s
  | .portBusyEnd _ => .next s
  | .powerOnReset => .next s

/-- R187: a frame is taken: the idle timer or the wake, the check of the code, and the request. -/
def takeFrame (p : PortId) (f : Frame) (s : State) : Result := takeInstr (decodeFrame p f) (requestTaken p s)

/-- R187: whether a port may take a request. -/
def mayTake (q : Port) : Bool := q.direct.isNone && decide (q.answers.length < 4) && !q.busy

/-- R187: a port takes the frames it may take, the oldest first; `fuel` bounds their number. -/
def settlePort : Nat → PortId → State → Result
  | 0, _, s => .next s
  | fuel + 1, p, s =>
    match (s.port p).requests with
    | [] => .next s
    | f :: rest =>
      if mayTake (s.port p) then
        andThen (takeFrame p f (s.modPort p fun q => { q with requests := rest })) (settlePort fuel p)
      else .next s

/-- R187: a port takes what it may take of its request queue. -/
def takeQueued (p : PortId) (s : State) : Result := settlePort (s.port p).requests.length p s

/-- R187: the three ports take what they may take, CP0 first, then CP1, then CP2. DESIGN CHOICE (log 20): no rule
orders the ports where several may take a request in one event. -/
def settle (s : State) : Result := andThen (andThen (takeQueued .cp0 s) (takeQueued .cp1)) (takeQueued .cp2)

/-- The end of an event of the store: results are delivered, a port whose direct read has ended takes its next
request in the same event (R187), and the bus is given out (log 20). -/
def finishEvent (s : State) : Result := andThen (settle (drainAll s)) fun s => .next (close s)

/-- R186: a whole frame arrives: it is placed at the end of the request queue, or discarded and counted. -/
def arrive (p : PortId) (f : Frame) (s : State) : Result :=
  if f.params.length ≤ 66 ∧ requestSpace (s.port p) = true then
    takeQueued p (s.modPort p fun q => { q with requests := q.requests ++ [f] })
  else .next (countDiscard p s)

/-- R187: whether a port takes a frame in the event of its arrival. -/
def takesAtOnce (q : Port) : Bool := q.requests.isEmpty && mayTake q

/-- A request's own command is the arrival of its frame (log 3): where the port takes it at once, what the request
does follows the idle timer or the wake; where it does not, the frame is queued or discarded. -/
def submit (p : PortId) (f : Frame) (take : State → Result) (s : State) : Result :=
  if f.params.length ≤ 66 ∧ takesAtOnce (s.port p) = true then take (requestTaken p s) else arrive p f s

end Sys2Proof.Machine
end

