-- ==== Sys2Proof/Machine/Requests.lean ====
section
/-! DEFINITION. The requests: each command is the arrival of its frame at a port (R186, R196, log 3), and what its
owning rule gives once it is taken (R187). -/

namespace Sys2Proof.Machine

/-- BAD_REQUEST (R187): the frame itself, checked as it is taken. -/
def execBadRequest (port : PortId) (code : Byte) (params : List Byte) (s : State) : Result :=
  submit port ⟨code, params⟩ (takeInstr (decodeFrame port ⟨code, params⟩)) s

/-- STATUS (R195). -/
def execStatus (port : PortId) (s : State) : Result :=
  submit port ⟨0x01, []⟩ (fun s => .next (takeStatus port s)) s

/-- NEXT_NOTICE (R190). -/
def execNextNotice (port : PortId) (s : State) : Result :=
  submit port ⟨0x02, []⟩ (fun s => .next (takeNextNotice port s)) s

/-- SET_ATTENTION_MARK (R191). -/
def execSetAttentionMark (port : PortId) (mark : Byte) (s : State) : Result :=
  submit port ⟨0x03, [mark]⟩ (fun s => .next (takeSetAttentionMark port mark s)) s

/-- RESET_DEVICE (R194). -/
def execResetDevice (port : PortId) (s : State) : Result :=
  submit port ⟨0x04, []⟩ (fun s => .next (deviceReset port s)) s

/-- WAKE (R123). -/
def execWake (port : PortId) (s : State) : Result :=
  submit port ⟨0x05, []⟩ (fun s => .next (takeWake port s)) s

/-- SET_VIEW (R48). -/
def execSetView (port : PortId) (zoom qx qy : Half) (s : State) : Result :=
  submit port ⟨0x10, halfBytes zoom ++ halfBytes qx ++ halfBytes qy⟩
    (fun s => .next (takeSetView port zoom qx qy s)) s

/-- NUDGE_VIEW (R49). -/
def execNudgeView (port : PortId) (zoomDelta dx dy : Half) (s : State) : Result :=
  submit port ⟨0x11, halfBytes zoomDelta ++ halfBytes dx ++ halfBytes dy⟩
    (fun s => .next (takeNudgeView port zoomDelta dx dy s)) s

/-- SET_GLIDE (R50). -/
def execSetGlide (port : PortId) (rate : Half) (s : State) : Result :=
  submit port ⟨0x12, halfBytes rate⟩ (fun s => .next (takeSetGlide port rate s)) s

/-- GET_VIEW (R51). -/
def execGetView (port : PortId) (s : State) : Result :=
  submit port ⟨0x13, []⟩ (fun s => .next (takeGetView port s)) s

/-- SET_ENHANCE (R69). -/
def execSetEnhance (port : PortId) (flatten sharpen core threshold floor : Option Byte) (s : State) : Result :=
  submit port ⟨0x18, [presenceByte [flatten.isSome, sharpen.isSome, core.isSome, threshold.isSome, floor.isSome]] ++
      optionalByte flatten ++ optionalByte sharpen ++ optionalByte core ++ optionalByte threshold ++
      optionalByte floor⟩
    (fun s => .next (takeSetEnhance port flatten sharpen core threshold floor s)) s

/-- GET_ENHANCE (R70). -/
def execGetEnhance (port : PortId) (s : State) : Result :=
  submit port ⟨0x19, []⟩ (fun s => .next (takeGetEnhance port s)) s

/-- LOAD_TONE (R71): the count of values decides whether the length fits (R187). -/
def execLoadTone (port : PortId) (start : Half) (values : List Byte) (s : State) : Result :=
  submit port ⟨0x1A, halfBytes start ++ values⟩ (takeInstr (decodeFrame port ⟨0x1A, halfBytes start ++ values⟩)) s

/-- LOAD_TONE_NEXT (R72): the count of values decides whether the length fits (R187). -/
def execLoadToneNext (port : PortId) (values : List Byte) (s : State) : Result :=
  submit port ⟨0x1B, values⟩ (takeInstr (decodeFrame port ⟨0x1B, values⟩)) s

/-- COMMIT_TONE (R73). -/
def execCommitTone (port : PortId) (s : State) : Result :=
  submit port ⟨0x1C, []⟩ (fun s => .next (takeCommitTone port s)) s

/-- GET_TONE (R70). -/
def execGetTone (port : PortId) (bank : Byte) (start : Half) (count : Byte) (s : State) : Result :=
  submit port ⟨0x1D, [bank] ++ halfBytes start ++ [count]⟩ (fun s => .next (takeGetTone port bank start count s)) s

/-- SET_OUTPUT (R77). -/
def execSetOutput (port : PortId) (projector tap : Byte) (s : State) : Result :=
  submit port ⟨0x20, [projector, tap]⟩ (fun s => .next (takeSetOutput port projector tap s)) s

/-- GET_OUTPUT (R96). -/
def execGetOutput (port : PortId) (s : State) : Result :=
  submit port ⟨0x21, []⟩ (fun s => .next (takeGetOutput port s)) s

/-- FREEZE (R87). -/
def execFreeze (port : PortId) (s : State) : Result :=
  submit port ⟨0x22, []⟩ (fun s => .next (takeFreeze port s)) s

/-- SHOW_LIVE (R88). -/
def execShowLive (port : PortId) (s : State) : Result :=
  submit port ⟨0x23, []⟩ (fun s => .next (takeShowLive port s)) s

/-- RELEASE_FREEZE (R89). -/
def execReleaseFreeze (port : PortId) (s : State) : Result :=
  submit port ⟨0x24, []⟩ (fun s => .next (takeReleaseFreeze port s)) s

/-- SHOW_PAGE (R90). -/
def execShowPage (port : PortId) (s : State) : Result :=
  submit port ⟨0x25, []⟩ (fun s => .next (takeShowPage port s)) s

/-- SPLIT (R91). -/
def execSplit (port : PortId) (reference : Byte) (s : State) : Result :=
  submit port ⟨0x26, [reference]⟩ (fun s => .next (takeSplit port reference s)) s

/-- GET_SCENE (R36). -/
def execGetScene (port : PortId) (sectionByte item source : Byte) (s : State) : Result :=
  submit port ⟨0x28, [sectionByte, item, source]⟩ (fun s => .next (takeGetScene port sectionByte item source s)) s

/-- SET_MOTION_DELTA (R33). -/
def execSetMotionDelta (port : PortId) (delta : Byte) (s : State) : Result :=
  submit port ⟨0x29, [delta]⟩ (fun s => .next (takeSetMotionDelta port delta s)) s

/-- FOCUS_AUTO (R108). -/
def execFocusAuto (port : PortId) (threshold : Option Half) (s : State) : Result :=
  submit port ⟨0x30, [presenceByte [threshold.isSome]] ++ optionalHalf threshold⟩
    (fun s => .next (takeFocusAuto port threshold s)) s

/-- FOCUS_MANUAL (R109). -/
def execFocusManual (port : PortId) (position : Half) (s : State) : Result :=
  submit port ⟨0x31, halfBytes position⟩ (fun s => .next (takeFocusManual port position s)) s

/-- SET_FOCUS_LINK (R110). -/
def execSetFocusLink (port : PortId) (address : Byte) (s : State) : Result :=
  submit port ⟨0x32, [address]⟩ (fun s => .next (takeSetFocusLink port address s)) s

/-- GET_FOCUS (R111). -/
def execGetFocus (port : PortId) (s : State) : Result :=
  submit port ⟨0x33, []⟩ (fun s => .next (takeGetFocus port s)) s

/-- SET_LAMP (R117). -/
def execSetLamp (port : PortId) (level : Half) (s : State) : Result :=
  submit port ⟨0x38, halfBytes level⟩ (fun s => .next (takeSetLamp port level s)) s

/-- SET_IDLE (R123). -/
def execSetIdle (port : PortId) (timeout : Half) (wakeThreshold : Option Half) (s : State) : Result :=
  submit port ⟨0x39, [presenceByte [wakeThreshold.isSome]] ++ halfBytes timeout ++ optionalHalf wakeThreshold⟩
    (fun s => .next (takeSetIdle port timeout wakeThreshold s)) s

/-- SET_STORE_PROFILE (R128). -/
def execSetStoreProfile (port : PortId) (fields : ProfileFields) (entries : List ProfileEntry) (s : State) : Result :=
  submit port ⟨0x40, profileBytes fields entries⟩ (fun s => .next (takeSetStoreProfile port fields entries s)) s

/-- GET_STORE_PROFILE (R128). -/
def execGetStoreProfile (port : PortId) (s : State) : Result :=
  submit port ⟨0x41, []⟩ (fun s => .next (takeGetStoreProfile port s)) s

/-- MOUNT (R150). -/
def execMount (port : PortId) (s : State) : Result :=
  submit port ⟨0x48, []⟩ (fun s => .next (close (takeMount port s))) s

/-- UNMOUNT (R154). -/
def execUnmount (port : PortId) (s : State) : Result :=
  submit port ⟨0x49, []⟩ (fun s => .next (takeUnmount port s)) s

/-- STORE_STATUS (R166). -/
def execStoreStatus (port : PortId) (s : State) : Result :=
  submit port ⟨0x4A, []⟩ (fun s => .next (takeStoreStatus port s)) s

/-- NEW_LESSON (R160): the length of the name decides whether the length fits (R187). -/
def execNewLesson (port : PortId) (name : List Byte) (s : State) : Result :=
  submit port ⟨0x4B, name⟩ (takeInstr (decodeFrame port ⟨0x4B, name⟩)) s

/-- SELECT_LESSON (R161). -/
def execSelectLesson (port : PortId) (lesson : Byte) (s : State) : Result :=
  submit port ⟨0x4C, [lesson]⟩ (fun s => .next (takeSelectLesson port lesson s)) s

/-- SET_LESSON_LOCK (R162). -/
def execSetLessonLock (port : PortId) (lesson lock : Byte) (s : State) : Result :=
  submit port ⟨0x4D, [lesson, lock]⟩ (fun s => .next (close (takeSetLessonLock port lesson lock s))) s

/-- DELETE_PAGE (R163). -/
def execDeletePage (port : PortId) (page : Half) (s : State) : Result :=
  submit port ⟨0x4E, halfBytes page⟩ (fun s => .next (close (takeDeletePage port page s))) s

/-- WIPE_LESSON (R164). -/
def execWipeLesson (port : PortId) (lesson : Byte) (s : State) : Result :=
  submit port ⟨0x4F, [lesson]⟩ (fun s => .next (close (takeWipeLesson port lesson s))) s

/-- LIST_LESSONS (R165). -/
def execListLessons (port : PortId) (start : Byte) (s : State) : Result :=
  submit port ⟨0x50, [start]⟩ (fun s => .next (takeListLessons port start s)) s

/-- LIST_PAGES (R165). -/
def execListPages (port : PortId) (lesson : Byte) (start : Half) (s : State) : Result :=
  submit port ⟨0x51, [lesson] ++ halfBytes start⟩ (fun s => .next (takeListPages port lesson start s)) s

/-- SAVE_PAGE (R170, R171). -/
def execSavePage (port : PortId) (mode : Byte) (s : State) : Result :=
  submit port ⟨0x58, [mode]⟩ (fun s => .next (takeSavePage port mode s)) s

/-- RECALL_PAGE (R178). -/
def execRecallPage (port : PortId) (page : Half) (display : Byte) (s : State) : Result :=
  submit port ⟨0x59, halfBytes page ++ [display]⟩
    (fun s => andThen (takeRecallPage port page display s) fun s => .next (close s)) s

/-- READ_PAGE_DATA (R182). -/
def execReadPageData (port : PortId) (page : Half) (offset : Quad) (length : Half) (s : State) : Result :=
  submit port ⟨0x5A, halfBytes page ++ quadBytes offset ++ halfBytes length⟩
    (fun s => .next (close (takeReadPageData port page offset length s))) s

end Sys2Proof.Machine
end

