-- ==== Sys2Proof/Machine/Signals.lean ====
section
/-! DEFINITION. The commands of the timing generators, the sampled pins, the lens link, the lamp and the idle timer:
each the effect its chapter gives (05, 06, 07). -/

namespace Sys2Proof.Machine

/-- PROJECTOR_FRAME_START (R80). -/
def execProjectorFrameStart (s : State) : Result := .next (projectorFrame s)

/-- TAP_FRAME_START (R80, R95). -/
def execTapFrameStart (tapReady : Bool) (s : State) : Result := .next (tapFrame tapReady s)

/-- PROJECTOR_PRESENT_FALL (R94). -/
def execProjectorPresentFall (s : State) : Result := .next (projectorFalls s)

/-- PROJECTOR_PRESENT_RISE (R94). -/
def execProjectorPresentRise (s : State) : Result := .next (projectorRises s)

/-- LENS_TRANSACTION_END (R99, R100): the transaction in flight ends with its stop condition. -/
def execLensTransactionEnd (ackAddress ackFirst ackSecond : Bool) (s : State) : Result :=
  match s.foc.link with
  | some m => .next (focusLensEnd (lensSucceeds (lensTransaction m [ackAddress, ackFirst, ackSecond])) s)
  | none => .next s

/-- LENS_CLOCK_HOLD_TIMEOUT (R99): the part releases the bus (`lensClockHeld`), and the transaction fails. -/
def execLensClockHoldTimeout (s : State) : Result := .next (focusLensEnd false s)

/-- LAMP_PERIOD_START (R114, R115). -/
def execLampPeriodStart (s : State) : Result := .next (periodStart s)

/-- LAMP_FAULT_ACTIVE (R116). -/
def execLampFaultActive (s : State) : Result := .next (lampFaultRises s)

/-- LAMP_FAULT_INACTIVE (R116). -/
def execLampFaultInactive (s : State) : Result := .next (lampFaultFalls s)

/-- MINUTE_INTERVAL_ELAPSED (R118). -/
def execMinuteIntervalElapsed (s : State) : Result := .next (minuteElapsed s)

/-- IDLE_TIMER_EXPIRY (R118, R120). -/
def execIdleTimerExpiry (s : State) : Result := .next (idleExpiry s)

end Sys2Proof.Machine
end

