-- ==== Sys2Proof/Machine/StoreEvents.lean ====
section
/-! DEFINITION. The commands of the store bus and the save engine: poll times reached (R133), operations that end on
the bus (R129, R132 to R134, R137, R138), and the end of a save render (R172). -/

namespace Sys2Proof.Machine

/-- POLL_DUE (R133, R139): a poll falls due, and an idle bus is given out. -/
def execPollDue (dev : DevId) (s : State) : Result := .next (close (pollFallsDue dev s))

/-- STATUS_POLL_END (R133, R134, R136, R137): a status poll ends at a moment with its status byte. DESIGN CHOICE
(log 37): the byte is read under the profile as it stands at the poll's end; R128 speaks of operations started after a
SET_STORE_PROFILE alone. -/
def execStatusPollEnd (moment : Nat) (status : Byte) (s : State) : Result :=
  match s.ssq.bus with
  | some r =>
    if r.kind = .statusPoll then
      let s := freeBus (s.clockTo moment)
      let busy := readsBusy s.ssq.profile status
      finishEvent (if r.user = .poll then pollEnds r.dev busy s else probePollEnds r.dev busy s)
    else .next s
  | none => .next s

/-- PROGRAM_ERASE_BUS_END (R132): a program or erase ends on the bus at a moment. -/
def execProgramEraseBusEnd (moment : Nat) (s : State) : Result :=
  match s.ssq.bus with
  | some r =>
    match r.kind.outstanding with
    | some k => finishEvent (programEnds k r (s.clockTo moment))
    | none => .next s
  | none => .next s

/-- READ_END (R138): a read ends on the bus with the bytes it asked for (log 5). -/
def execReadEnd (bytes : List Byte) (s : State) : Result :=
  match s.ssq.bus with
  | some r =>
    if r.kind = .read bytes.length then finishEvent (readEnds r bytes (freeBus s)) else .next s
  | none => .next s

/-- ID_RECHECK_END (R134): the recheck's three bytes have been read. -/
def execIdRecheckEnd (id0 id1 id2 : Byte) (s : State) : Result :=
  match s.ssq.bus with
  | some r =>
    if r.user = .recheck then finishEvent (recheckEnds r.dev (id0, id1, id2) (freeBus s)) else .next s
  | none => .next s

/-- PROBE_ID_READ_END (R137): the three bytes of a mount probe have been read. -/
def execProbeIdReadEnd (id0 id1 id2 : Byte) (s : State) : Result :=
  match s.ssq.bus with
  | some r =>
    if r.user = .client .mount ∧ r.kind = .idRead then
      finishEvent (probeEnds r.dev (probeRead r.dev (id0, id1, id2) (freeBus s)))
    else .next s
  | none => .next s

/-- SAVE_RENDER_END (R172). -/
def execSaveRenderEnd (s : State) : Result := finishEvent (renderEnds s)

end Sys2Proof.Machine
end

