-- ==== Sys2Proof/Machine/Transactions.lean ====
section
/-! DEFINITION. The commands at the pins of the control ports: the four kinds of transaction (R185, R186, R188), the
port-reset input and its busy interval (R193), and power-up (R194). -/

namespace Sys2Proof.Machine

/-- R196: the transaction types; any other value is unknown (R185). -/
def TransactionKind.ofType (type : Byte) : TransactionKind :=
  if type = 0x00 then .poll
  else if type = 0x01 then .send
  else if type = 0x02 then .fetch
  else .unknown

/-- R185, R196: the command of a transaction, from its first byte, the bytes shifted in after it and whether chip select
rises after them. -/
def transactionCommand (p : PortId) (type : Byte) (bytes : List Byte) (ends : Bool) : Instr :=
  match TransactionKind.ofType type with
  | .poll => .poll p ⟨bytes.length, ends⟩
  | .send => .sendRequest p ⟨bytes, ends⟩
  | .fetch => .fetchAnswer p ⟨bytes.length, ends⟩
  | .unknown => .unknownTransactionType p type ⟨bytes.length, ends⟩

/-- R185, R196: the first byte of a command's transaction, and none for a command that is no transaction. -/
def transactionType? : Instr → Option Byte
  | .poll _ _ => some 0x00
  | .sendRequest _ _ => some 0x01
  | .fetchAnswer _ _ => some 0x02
  | .unknownTransactionType _ type _ => some type
  | _ => none

/-- What a port shifts out in a transaction (log 14). -/
def setOut (p : PortId) (bytes : List Byte) (s : State) : State :=
  match p with
  | .cp0 => { s with out0 := bytes }
  | .cp1 => { s with out1 := bytes }
  | .cp2 => { s with out2 := bytes }

/-- What a port has shifted out in the transaction in progress or, with none, in its last one (log 14). -/
def State.out (s : State) : PortId → List Byte
  | .cp0 => s.out0
  | .cp1 => s.out1
  | .cp2 => s.out2

/-- R186: the frame in the bytes of a SEND_REQUEST; none where it is cut short or its length is above 66. -/
def parseFrame (bytes : List Byte) : Option Frame :=
  match bytes with
  | code :: length :: rest =>
    if length.toNat ≤ 66 ∧ length.toNat ≤ rest.length then some { code := code, params := rest.take length.toNat }
    else none
  | _ => none

/-- R185, R188: whether a FETCH_ANSWER that begins now shifts out the oldest answer, and not the empty frame. -/
def holdsAnswer (q : Port) : Bool := !q.busy && !q.answers.isEmpty

/-- R185, R188: the frame a FETCH_ANSWER that begins now shifts out. -/
def fetchFrame (q : Port) : Answer := if q.busy then emptyAnswer else q.answers.head?.getD emptyAnswer

/-- R185: a transaction as it begins, with its first byte. -/
def beginTransaction (k : TransactionKind) (q : Port) : Transaction :=
  if k = .fetch then { kind := k, left := (fetchFrame q).bytes, held := holdsAnswer q } else { kind := k }

/-- R185, R188: what the part shifts out over n further bytes: what is left of its frame, and 0x00 after it. -/
def Transaction.out (t : Transaction) (n : Nat) : List Byte := (t.left ++ List.replicate n 0).take n

/-- R186, R188: a transaction after n further bytes, with the bytes shifted in. -/
def Transaction.advance (t : Transaction) (bytes : List Byte) (n : Nat) : Transaction :=
  { t with
    received := t.received ++ bytes
    left := t.left.drop n
    held := t.held && decide (n < t.left.length)
    count := t.count + n }

/-- R186: the frame a SEND_REQUEST has brought arrives as chip select rises, or is counted. -/
def receiveFrame (p : PortId) (bytes : List Byte) (s : State) : Result :=
  match parseFrame bytes with
  | some f => arrive p f s
  | none => .next (countDiscard p s)

/-- R187, R188: the oldest answer, shifted out whole, leaves the queue, and the port may take its next request. -/
def answerLeaves (p : PortId) (s : State) : Result :=
  takeQueued p (s.modPort p fun q => { q with answers := q.answers.drop 1 })

/-- R185 to R188: what further bytes of a transaction do at its port, from the transaction before and after them. One
that a reset has cut off does nothing (R193). -/
def transactionEffect (p : PortId) (t t' : Transaction) (ends : Bool) (s : State) : Result :=
  if t.cut then .next s
  else match t.kind with
    | .poll => .next s
    | .send => if ends then receiveFrame p t'.received s else .next s
    | .fetch => if t.held && !t'.held then answerLeaves p s else .next s
    | .unknown => .next (if ends && decide (0 < t'.count) then countDiscard p s else s)

/-- R185: a transaction goes on for n bytes; `shown` has been shifted out before, and `ends` where chip select rises
after them. -/
def carryOn (p : PortId) (t : Transaction) (shown bytes : List Byte) (n : Nat) (ends : Bool) (s : State) : Result :=
  let t' := t.advance bytes n
  let s := s.modPort p fun q => { q with transfer := if ends then none else some t' }
  transactionEffect p t t' ends (setOut p (shown ++ t.out n) s)

/-- R185: bytes of a transaction of a kind at a port: its first byte shifts out the link status byte as it stands; where
one of the same kind is in progress they carry it on. While another kind is in progress no transaction begins (log 1). -/
def transact (p : PortId) (k : TransactionKind) (bytes : List Byte) (n : Nat) (ends : Bool) (s : State) : Result :=
  match (s.port p).transfer with
  | none => carryOn p (beginTransaction k (s.port p)) [linkStatus (s.port p)] bytes n ends s
  | some t => if t.kind = k then carryOn p t (s.out p) bytes n ends s else .next s

/-- R185, R196: a transaction by its type byte. -/
def transactAs (p : PortId) (type : Byte) (bytes : List Byte) (n : Nat) (ends : Bool) (s : State) : Result :=
  transact p (TransactionKind.ofType type) bytes n ends s

/-- POLL (R185): no state of the port changes but the transaction itself. -/
def execPoll (port : PortId) (extra : Stretch Nat) (s : State) : Result :=
  transactAs port 0x00 [] extra.part extra.ends s

/-- SEND_REQUEST (R186). -/
def execSendRequest (port : PortId) (bytes : ByteStretch) (s : State) : Result :=
  transactAs port 0x01 bytes.part bytes.part.length bytes.ends s

/-- FETCH_ANSWER (R185, R187, R188): the oldest answer, or the empty frame. -/
def execFetchAnswer (port : PortId) (shifted : Stretch Nat) (s : State) : Result :=
  transactAs port 0x02 [] shifted.part shifted.ends s

/-- UNKNOWN_TRANSACTION_TYPE (R185): ignored, and counted as chip select rises; one that ends after its first byte
reads the link status alone (log 15). DESIGN CHOICE (log 43): with a type byte that R196 does name, the command is a
transaction of that type, a SEND_REQUEST with no byte of a frame, since the command carries none. -/
def execUnknownTransactionType (port : PortId) (type : Byte) (extra : Stretch Nat) (s : State) : Result :=
  transactAs port type [] extra.part extra.ends s

/-- PORT_RESET (R193): the pin of an abandoned direct read may be the last on its page, so the event closes the
store. -/
def execPortReset (port : PortId) (s : State) : Result := .next (close (resetPort port s))

/-- PORT_RESET_RELEASE (R193). -/
def execPortResetRelease (port : PortId) (s : State) : Result := .next (releasePort port s)

/-- PORT_BUSY_END (R193): the busy interval ends, and the port takes requests again. -/
def execPortBusyEnd (port : PortId) (s : State) : Result :=
  match (s.port port).busyFrom with
  | some t =>
    takeQueued port ((s.clockTo (t + busyLength)).modPort port fun q => { q with busy := false, busyFrom := none })
  | none => .next s

/-- POWER_ON_RESET (R194): every block takes its power-on values; frame memory, what stands at the pins and the clock
stay as they are (log 6, log 10). -/
def execPowerOnReset (s : State) : Result :=
  .next
    { State.powerOn s.now s.inputs s.mem s.cp0.pins s.cp1.pins s.cp2.pins with
      pending := s.pending
      choices := s.choices
      out0 := s.out0
      out1 := s.out1
      out2 := s.out2 }

end Sys2Proof.Machine
end

