-- ==== Sys2Proof/Machine/Dispatch.lean ====
section
/-! DEFINITION. One arm for each command: a direct call of its meaning. -/

namespace Sys2Proof.Machine

def exec (i : Instr) (s : State) : Host.Outcome State Fault Refusal :=
  match i with
  | .frameStartPacket frameNumber => Sys2Proof.Machine.execFrameStartPacket frameNumber s
  | .linePacket line pixels data checksum => Sys2Proof.Machine.execLinePacket line pixels data checksum s
  | .frameEndPacket => Sys2Proof.Machine.execFrameEndPacket s
  | .unrecognisedPacket contents => Sys2Proof.Machine.execUnrecognisedPacket contents s
  | .linkLossTimerExpiry => Sys2Proof.Machine.execLinkLossTimerExpiry s
  | .projectorFrameStart => Sys2Proof.Machine.execProjectorFrameStart s
  | .tapFrameStart tapReady => Sys2Proof.Machine.execTapFrameStart tapReady s
  | .projectorPresentFall => Sys2Proof.Machine.execProjectorPresentFall s
  | .projectorPresentRise => Sys2Proof.Machine.execProjectorPresentRise s
  | .lensTransactionEnd ackAddress ackFirst ackSecond => Sys2Proof.Machine.execLensTransactionEnd ackAddress ackFirst ackSecond s
  | .lensClockHoldTimeout => Sys2Proof.Machine.execLensClockHoldTimeout s
  | .lampPeriodStart => Sys2Proof.Machine.execLampPeriodStart s
  | .lampFaultActive => Sys2Proof.Machine.execLampFaultActive s
  | .lampFaultInactive => Sys2Proof.Machine.execLampFaultInactive s
  | .minuteIntervalElapsed => Sys2Proof.Machine.execMinuteIntervalElapsed s
  | .idleTimerExpiry => Sys2Proof.Machine.execIdleTimerExpiry s
  | .pollDue dev => Sys2Proof.Machine.execPollDue dev s
  | .statusPollEnd moment status => Sys2Proof.Machine.execStatusPollEnd moment status s
  | .programEraseBusEnd moment => Sys2Proof.Machine.execProgramEraseBusEnd moment s
  | .readEnd bytes => Sys2Proof.Machine.execReadEnd bytes s
  | .idRecheckEnd id0 id1 id2 => Sys2Proof.Machine.execIdRecheckEnd id0 id1 id2 s
  | .probeIdReadEnd id0 id1 id2 => Sys2Proof.Machine.execProbeIdReadEnd id0 id1 id2 s
  | .saveRenderEnd => Sys2Proof.Machine.execSaveRenderEnd s
  | .poll port extra => Sys2Proof.Machine.execPoll port extra s
  | .sendRequest port bytes => Sys2Proof.Machine.execSendRequest port bytes s
  | .fetchAnswer port shifted => Sys2Proof.Machine.execFetchAnswer port shifted s
  | .unknownTransactionType port type extra => Sys2Proof.Machine.execUnknownTransactionType port type extra s
  | .badRequest port code params => Sys2Proof.Machine.execBadRequest port code params s
  | .portReset port => Sys2Proof.Machine.execPortReset port s
  | .portResetRelease port => Sys2Proof.Machine.execPortResetRelease port s
  | .portBusyEnd port => Sys2Proof.Machine.execPortBusyEnd port s
  | .powerOnReset => Sys2Proof.Machine.execPowerOnReset s
  | .status port => Sys2Proof.Machine.execStatus port s
  | .nextNotice port => Sys2Proof.Machine.execNextNotice port s
  | .setAttentionMark port mark => Sys2Proof.Machine.execSetAttentionMark port mark s
  | .resetDevice port => Sys2Proof.Machine.execResetDevice port s
  | .wake port => Sys2Proof.Machine.execWake port s
  | .setView port zoom qx qy => Sys2Proof.Machine.execSetView port zoom qx qy s
  | .nudgeView port zoomDelta dx dy => Sys2Proof.Machine.execNudgeView port zoomDelta dx dy s
  | .setGlide port rate => Sys2Proof.Machine.execSetGlide port rate s
  | .getView port => Sys2Proof.Machine.execGetView port s
  | .setEnhance port flatten sharpen core threshold floor => Sys2Proof.Machine.execSetEnhance port flatten sharpen core threshold floor s
  | .getEnhance port => Sys2Proof.Machine.execGetEnhance port s
  | .loadTone port start values => Sys2Proof.Machine.execLoadTone port start values s
  | .loadToneNext port values => Sys2Proof.Machine.execLoadToneNext port values s
  | .commitTone port => Sys2Proof.Machine.execCommitTone port s
  | .getTone port bank start count => Sys2Proof.Machine.execGetTone port bank start count s
  | .setOutput port projector tap => Sys2Proof.Machine.execSetOutput port projector tap s
  | .getOutput port => Sys2Proof.Machine.execGetOutput port s
  | .freeze port => Sys2Proof.Machine.execFreeze port s
  | .showLive port => Sys2Proof.Machine.execShowLive port s
  | .releaseFreeze port => Sys2Proof.Machine.execReleaseFreeze port s
  | .showPage port => Sys2Proof.Machine.execShowPage port s
  | .split port reference => Sys2Proof.Machine.execSplit port reference s
  | .getScene port sectionByte item source => Sys2Proof.Machine.execGetScene port sectionByte item source s
  | .setMotionDelta port delta => Sys2Proof.Machine.execSetMotionDelta port delta s
  | .focusAuto port threshold => Sys2Proof.Machine.execFocusAuto port threshold s
  | .focusManual port position => Sys2Proof.Machine.execFocusManual port position s
  | .setFocusLink port address => Sys2Proof.Machine.execSetFocusLink port address s
  | .getFocus port => Sys2Proof.Machine.execGetFocus port s
  | .setLamp port level => Sys2Proof.Machine.execSetLamp port level s
  | .setIdle port timeout wakeThreshold => Sys2Proof.Machine.execSetIdle port timeout wakeThreshold s
  | .setStoreProfile port fields entries => Sys2Proof.Machine.execSetStoreProfile port fields entries s
  | .getStoreProfile port => Sys2Proof.Machine.execGetStoreProfile port s
  | .mount port => Sys2Proof.Machine.execMount port s
  | .unmount port => Sys2Proof.Machine.execUnmount port s
  | .storeStatus port => Sys2Proof.Machine.execStoreStatus port s
  | .newLesson port name => Sys2Proof.Machine.execNewLesson port name s
  | .selectLesson port lesson => Sys2Proof.Machine.execSelectLesson port lesson s
  | .setLessonLock port lesson lock => Sys2Proof.Machine.execSetLessonLock port lesson lock s
  | .deletePage port page => Sys2Proof.Machine.execDeletePage port page s
  | .wipeLesson port lesson => Sys2Proof.Machine.execWipeLesson port lesson s
  | .listLessons port start => Sys2Proof.Machine.execListLessons port start s
  | .listPages port lesson start => Sys2Proof.Machine.execListPages port lesson start s
  | .savePage port mode => Sys2Proof.Machine.execSavePage port mode s
  | .recallPage port page display => Sys2Proof.Machine.execRecallPage port page display s
  | .readPageData port page offset length => Sys2Proof.Machine.execReadPageData port page offset length s

end Sys2Proof.Machine
end

