-- ==== Sys2Proof/Safety.lean ====
section
/-! DEFINITION. What counts as a safe run and the terms the statements use: when a port takes a request at once, when
nothing waits at the ports, and the properties every step keeps. -/

namespace Sys2Proof.Machine

/-- A step that neither faults nor refuses. -/
def Steps (s t : State) : Prop := step s = .next t

/-- R187: a port takes a request in the event of its arrival: its request queue is empty, no direct read is in
flight, its answer queue has room and PORT_BUSY is clear. -/
def Serves (p : PortId) (s : State) : Prop :=
  (s.port p).requests = [] ∧ (s.port p).direct = none ∧ (s.port p).answers.length < 4 ∧ (s.port p).busy = false

/-- No request waits at any port, and no result is on its way to a client. -/
def Quiet (s : State) : Prop := (∀ p, (s.port p).requests = []) ∧ s.ssq.results = []

/-- R1: a sound line: 4,096 pixels, 8,192 bytes, and a checksum equal to the sum of the byte pairs. -/
def SoundLine (pixels : Nat) (data : List Byte) (checksum : Half) : Prop :=
  pixels = 4096 ∧ data.length = 8192 ∧
    checksum.toNat =
      ((List.range 4096).map fun i => (data.getD (2 * i) 0).toNat * 256 + (data.getD (2 * i + 1) 0).toNat).sum % 65536

/-- R1 to R6: a state in which the frame in slot n has been damaged. -/
def damagedFrame (n : Nat) (s : State) : State :=
  { s.setSlot n {} with
    sst := { s.sst with acc := none }
    sin := { s.sin with state := .waitFrame, damaged := min 65535 (s.sin.damaged + 1) } }

/-- R14: an unheld READY slot of SENSOR kind. -/
def Candidate (x : Slot) : Prop := x.state = .ready ∧ x.kind = some .sensor ∧ x.holders = {}

/-- R189: a notice queue holds at most 16 notices, and at most one of each coalescing kind. -/
def NoticesSound (q : Port) : Prop :=
  q.notices.length ≤ 16 ∧
    ∀ k : NoticeKind, k.coalesces = true → (q.notices.filter fun n => decide (n.kind = k)).length ≤ 1

/-- R131 to R134, R139: what runs on the bus for a BUSY device is a status poll while recheck pending is clear and the
ID recheck while it is set; a poll or recheck runs, or is due, for a BUSY device alone, a due one as its recheck pending
says; a device has one under way at most, and no next poll time while its recheck is pending. -/
structure BusSound (s : State) : Prop where
  running : ∀ r b, s.ssq.bus = some r → (s.device r.dev).state = .busy b →
    (r.user = .poll ∧ r.kind = .statusPoll ∧ b.recheck = false) ∨
      (r.user = .recheck ∧ r.kind = .idRead ∧ b.recheck = true)
  ranked : ∀ r, s.ssq.bus = some r → (r.user = .poll ∨ r.user = .recheck) →
    (∃ b, (s.device r.dev).state = .busy b) ∧ ∀ o ∈ s.ssq.due, o.dev ≠ r.dev
  due : ∀ o ∈ s.ssq.due, ∃ b, (s.device o.dev).state = .busy b ∧ b.recheck = o.recheck
  once : (s.ssq.due.map DueOp.dev).Nodup
  pending : ∀ d b, (s.device d).state = .busy b → b.recheck = true → b.nextPoll = none

/-- R119, R169, R170: at most four jobs, at most two with a frame slot; the idle hold is set exactly while a job or a
recall exists, and the part is awake while it is. -/
def WorkSound (s : State) : Prop :=
  s.sre.jobs.length ≤ 4 ∧ (s.sre.jobs.filter Job.holdsSlot).length ≤ 2 ∧ s.liu.hold = storeWork s.sre ∧
    (s.liu.hold = true → s.liu.doze = false)

/-- R71, R182 to R193: the bounds of one port's queues and context. -/
structure PortSound (q : Port) : Prop where
  requests : q.requests.length ≤ 4
  answers : q.answers.length + (if q.direct.isSome then 1 else 0) ≤ 4
  notices : NoticesSound q
  mark : q.mark ≤ 15
  tone : q.tone ≤ 256
  discarded : q.discarded ≤ 255
  input : q.resetInput = true → q.busy = true
  interval : q.busyFrom.isSome = true → q.busy = true ∧ q.resetInput = false

/-- Every port is within its bounds, and frame memory has its one form. -/
def QueuesSound (s : State) : Prop := (∀ p, PortSound (s.port p)) ∧ Memory.wf s.mem

/-- R38, R48, R49: a view within the zoom range, its centre inside the largest source. -/
def ViewSound (v : ViewRecord) : Prop :=
  100 ≤ v.zt ∧ v.zt ≤ 1600 ∧ 100 ≤ v.zc ∧ v.zc ≤ 1600 ∧ v.qx ≤ 4095 ∧ v.qy ≤ 3071

/-- R98 to R110: every lens position is at most 1023, and the address and threshold are in their ranges. -/
def FocusSound (f : Focus) : Prop :=
  f.lensPos ≤ 1023 ∧ (∀ m, f.link = some m → m.pos ≤ 1023 ∧ 0x08 ≤ m.addr ∧ m.addr ≤ 0x77) ∧
    (∀ n, f.wanted = some n → n ≤ 1023) ∧ 0x08 ≤ f.addr ∧ f.addr ≤ 0x77 ∧ 1 ≤ f.threshold ∧ f.threshold ≤ 768 ∧
    match f.state with
    | .search r => r.bestPos ≤ 1023 ∧ ∀ n ∈ r.fineList, n ≤ 1023
    | .locked l => l.pos ≤ 1023
    | _ => True

/-- R127: a command entry of the flash profile: each lane count 1, 2 or 4, a count of address bytes that the kind
accepts, and at most 15 dummy cycles. -/
def EntrySound (k : CommandKind) (e : CommandEntry) : Prop :=
  (∀ n ∈ [e.commandLanes, e.addressLanes, e.dataLanes], n = 1 ∨ n = 2 ∨ n = 4) ∧ e.dummyCycles ≤ 15 ∧
    match k with
    | .writeEnable => e.addressBytes = 0
    | .status => e.addressBytes = 0
    | .idRead => e.addressBytes = 0 ∨ e.addressBytes = 3
    | _ => e.addressBytes = 4

/-- R127: the command entries and the numbers of the flash profile are in the ranges of its table. -/
def ProfileSound (f : Profile) : Prop :=
  (∀ k, EntrySound k (f.entry k)) ∧
  2 ≤ f.divider ∧ f.divider ≤ 64 ∧ f.busyBit ≤ 7 ∧ f.busyPolarity ≤ 1 ∧ 20 ≤ f.pollInterval ∧ f.pollInterval ≤ 1000 ∧
    1 ≤ f.programTimeout ∧ f.programTimeout ≤ 50 ∧ 50 ≤ f.sectorTimeout ∧ f.sectorTimeout ≤ 2000 ∧
    200 ≤ f.blockTimeout ∧ f.blockTimeout ≤ 10000

/-- Every setting, counter and lens position is in the range its rule gives (R5, R6, R12, R30, R33, R38, R50, R68,
R95, R98, R117, R118, R123, R127, R153, R171). -/
def SettingsSound (s : State) : Prop :=
  ViewSound s.vwc.live ∧ ViewSound s.vwc.page ∧ s.vwc.glide ≤ 200 ∧
    s.ren.enh.sharpen ≤ 31 ∧ s.ren.enh.core ≤ 31 ∧ 1 ≤ s.ren.enh.threshold ∧ s.ren.enh.threshold ≤ 254 ∧
    s.ren.active.length = 256 ∧ s.ren.staging.length = 256 ∧
    32 ≤ s.sst.floor ∧ s.sst.floor ≤ 192 ∧ 1 ≤ s.sst.delta ∧ s.sst.delta ≤ 64 ∧
    s.liu.level ≤ 1023 ∧ s.liu.duty ≤ 1023 ∧ s.liu.timeout ≤ 240 ∧ s.liu.minutes ≤ 240 ∧
    1 ≤ s.liu.wakeThreshold ∧ s.liu.wakeThreshold ≤ 768 ∧
    FocusSound s.foc ∧ s.sin.damaged ≤ 65535 ∧ s.sin.concealed ≤ 65535 ∧ s.skipped ≤ 65535 ∧
    s.fst.counter ≤ 4294967295 ∧ (∀ n, s.cat.saveSeq = some n → 1 ≤ n ∧ n ≤ 4294967295) ∧
    ProfileSound s.ssq.profile

/-! ## The frame slots -/

/-- R15: at most one slot carries a holder kind. -/
def OneHolder (k : HolderKind) (s : State) : Prop :=
  ∀ m n, m < 10 → n < 10 → (s.slot m).holders.has k = true → (s.slot n).holders.has k = true → m = n

/-- R15, R16: a pipe's scan holder stands only on the live slot of its frame, or on the reference slot while that
slot carries FREEZE or PAGE. -/
def ScansItsFrame (k : HolderKind) (c : Context) (s : State) : Prop :=
  ∀ n < 10, (s.slot n).holders.has k = true →
    c.live = some n ∨ (c.reference = some n ∧ ((s.slot n).holders.freeze = true ∨ (s.slot n).holders.page = true))

/-- R10 to R21: what stands in the slot table. Holders stand on READY slots, FREEZE, PAGE and the two save holders on
one slot each; one slot at most is FILLING, and only in RECEIVING; one is LOADING exactly while a recall is in flight,
the recall's; a READY slot is of SENSOR kind or a held page; each save holder belongs to a job that has not rendered
yet. -/
structure SlotsSound (s : State) : Prop where
  held : ∀ n < 10, (s.slot n).holders ≠ {} → (s.slot n).state = .ready
  freeze : OneHolder .freeze s
  page : OneHolder .page s
  saveA : OneHolder .saveA s
  saveB : OneHolder .saveB s
  filling : ∀ m n, m < 10 → n < 10 → (s.slot m).state = .filling → (s.slot n).state = .filling → m = n
  receiving : ∀ n < 10, (s.slot n).state = .filling → s.sin.state = .receiving ∧ (s.slot n).kind = some .sensor
  loading : ∀ n < 10, (s.slot n).state = .loading ↔ ∃ r, s.sre.recalling = some r ∧ r.slot = n
  loadingKind : ∀ n < 10, (s.slot n).state = .loading → ∃ m : PageMode, (s.slot n).kind = some m.kind
  recalled : ∀ r, s.sre.recalling = some r → r.slot < 10
  ready : ∀ n < 10, (s.slot n).state = .ready →
    (s.slot n).kind = some .sensor ∨ ((∃ m : PageMode, (s.slot n).kind = some m.kind) ∧ (s.slot n).holders ≠ {})
  projector : ScansItsFrame .scanP s.opp.ctx s
  tap : ScansItsFrame .scanT s.opt.ctx s
  saving : ∀ n < 10, ∀ h : SaveHolder, (s.slot n).holders.has h.kind = true →
    ∃ j ∈ s.sre.jobs, j.holdsSlot = true ∧ j.source = some (n, h)

/-! ## The catalogue -/

/-- Whether a page's blocks are in use by it: WRITING, STORED or RETIRING (R147, R149). -/
def Page.usesBlocks (g : Page) : Prop := g.state = .writing ∨ g.state = .stored ∨ g.state = .retiring

/-- R143, R149, R157, R159: a block listed by a page that uses it is an image block and USED, and stands in no other
list and once in its own; the block being checked is UNKNOWN, and the block being reclaimed DIRTY or ERASING. -/
structure BlocksSound (s : State) : Prop where
  image : ∀ p < 1024, (s.page p).usesBlocks → ∀ g ∈ (s.page p).blocks, imageBlock s.cat g = true
  once : ∀ p < 1024, (s.page p).usesBlocks → (s.page p).blocks.Nodup
  used : s.cat.store = .mounted → ∀ p < 1024, (s.page p).usesBlocks → ∀ g ∈ (s.page p).blocks, s.block g = some .used
  apart : s.cat.store = .mounted → ∀ p q, p < 1024 → q < 1024 → p ≠ q → (s.page p).usesBlocks →
    (s.page q).usesBlocks → ∀ g ∈ (s.page p).blocks, g ∉ (s.page q).blocks
  checked : ∀ g n, s.cat.alloc = .checking g n → s.block g = some .unknown ∧ imageBlock s.cat g = true
  erased : ∀ g, s.cat.reclaim = some (.block g) → g < 8192 ∧ (s.block g = some .dirty ∨ s.block g = some .erasing)

/-- R147, R158, R169, R172, R173: each job has a page of its own, WRITING in the job's lesson with the job's block list,
which is empty before the render has ended; a job is PENDING only while another is RENDERING or both buffers are taken; the
reservation is the sum of what the jobs still need. -/
structure JobsSound (s : State) : Prop where
  pages : (s.sre.jobs.map Job.page).Nodup
  writing : ∀ j ∈ s.sre.jobs, j.page < 1024 ∧ (s.page j.page).state = .writing ∧ (s.page j.page).lesson = j.lesson ∧
    (s.page j.page).blocks = j.blocks
  unwritten : ∀ j ∈ s.sre.jobs, j.holdsSlot = true → j.blocks = []
  waits : (∃ j ∈ s.sre.jobs, j.state = .pending) → (∃ j ∈ s.sre.jobs, j.state = .rendering) ∨
    ((∃ j ∈ s.sre.jobs, j.buffer = some 0) ∧ ∃ j ∈ s.sre.jobs, j.buffer = some 1)
  reserved : s.cat.store = .mounted → s.cat.reserved = some (s.sre.jobs.map Job.remaining).sum

/-- A lesson that nothing may belong to: no STORED page, no job, and no port's current lesson. -/
def Bare (n : Nat) (s : State) : Prop :=
  (∀ p < 1024, (s.page p).state = .stored → (s.page p).lesson ≠ n) ∧ (∀ j ∈ s.sre.jobs, j.lesson ≠ n) ∧
    ∀ q, (s.port q).lesson ≠ some n

/-- The lesson of a task that writes a lesson's record. -/
def TaskKind.lesson? : TaskKind → Option Nat
  | .lessonCreate n _ => some n
  | .lessonRewrite n _ => some n
  | .lessonRetire n _ _ => some n
  | _ => none

/-- The page of a task that retires a page. -/
def TaskKind.retires? : TaskKind → Option Nat
  | .pageRetire n _ => some n
  | _ => none

/-- The page of a task that commits a page. -/
def TaskKind.commits? : TaskKind → Option Nat
  | .pageCommit n => some n
  | _ => none

/-- R145 to R147: each lesson has at most one task, and is REWRITING; each page has at most one, and is RETIRING with
the mark PENDING, or the page of a job in COMMITTING. -/
structure TasksSound (s : State) : Prop where
  lessons : ∀ t ∈ s.cat.tasks, ∀ n, t.kind.lesson? = some n → n < 64 ∧ (s.lesson n).state = .rewriting
  lessonOnce : (s.cat.tasks.filterMap fun t => t.kind.lesson?).Nodup
  retires : ∀ t ∈ s.cat.tasks, ∀ n, t.kind.retires? = some n →
    (s.page n).state = .retiring ∧ (s.page n).mark = .pending
  retireOnce : (s.cat.tasks.filterMap fun t => t.kind.retires?).Nodup
  commits : ∀ t ∈ s.cat.tasks, ∀ n, t.kind.commits? = some n → ∃ j ∈ s.sre.jobs, j.page = n ∧ j.state = .committing
  commitOnce : (s.cat.tasks.filterMap fun t => t.kind.commits?).Nodup

/-- R146, R160, R161, R164: a lesson's page count is the number of its STORED pages; nothing belongs to an EMPTY or a
WIPED lesson, nor to one that is being created or wiped; a port's current lesson is LIVE or REWRITING. -/
structure LessonsSound (s : State) : Prop where
  count : s.cat.store = .mounted → ∀ n < 64, (s.lesson n).count =
    ((List.range 1024).filter fun p => decide ((s.page p).state = .stored ∧ (s.page p).lesson = n)).length
  bare : s.cat.store = .mounted → ∀ n < 64, ((s.lesson n).state = .empty ∨ (s.lesson n).state = .wiped) → Bare n s
  created : ∀ t ∈ s.cat.tasks, ∀ n p, t.kind = .lessonCreate n p → Bare n s
  wiped : ∀ t ∈ s.cat.tasks, ∀ n p r, t.kind = .lessonRetire n p r → Bare n s
  current : ∀ q n, (s.port q).lesson = some n → s.cat.store = .mounted ∧ n < 64 ∧
    ((s.lesson n).state = .live ∨ (s.lesson n).state = .rewriting)
  reclaimed : ∀ n, s.cat.reclaim = some (.sector n) →
    if n < 64 then (s.lesson n).state = .wiped else n < 1088 ∧ (s.page (n - 64)).state = .retired

/-- R138: what a client has under way: waiting, on the bus, at a device, or on its way back. -/
def underWay (c : Client) (s : State) : Nat :=
  let atDevice (d : DevId) : Nat := match (s.device d).state with
    | .busy b => if b.client = some c then 1 else 0
    | _ => 0
  s.ssq.waiting.countP (fun w => decide (w.client = c)) + s.ssq.results.countP (fun r => decide (r.1 = c)) +
    (match s.ssq.bus with
      | some x => if x.user = .client c ∧ x.wanted = true then 1 else 0
      | none => 0) + atDevice .d0 + atDevice .d1

/-- The stage of the mount in progress. -/
def stageOf (s : State) : Option MountStage := s.cat.mount.map Mount.stage

/-- R137 to R139, R151, R159: the reclaimer has at most its item's erase under way, and the mount scanner at most the
probe or the read it stands at. -/
structure ClientsSound (s : State) : Prop where
  reclaim : underWay .reclaim s ≤ 1 ∧ (s.cat.reclaim = none → underWay .reclaim s = 0)
  erase : ∀ w ∈ s.ssq.waiting, w.client = .reclaim → ∃ i, s.cat.reclaim = some i ∧ w.op = i.op
  mount : underWay .mount s ≤ 1 ∧ (s.cat.mount = none → underWay .mount s = 0)
  scans : ∀ w ∈ s.ssq.waiting, w.client = .mount →
    (∃ d, stageOf s = some (.probe d) ∧ w.op = { dev := d, kind := .probe, addr := 0 }) ∨
      ∃ n, stageOf s = some (.area n) ∧ w.op.kind = .read 256
  probes : ∀ w ∈ s.ssq.waiting, w.op.kind = .probe → w.client = .mount
  scanning : ∀ x, s.ssq.bus = some x → x.user = .client .mount → x.wanted = true ∧
    ((stageOf s = some (.probe x.dev) ∧ (x.kind = .idRead ∨ x.kind = .statusPoll)) ∨
      ∃ n, stageOf s = some (.area n) ∧ x.kind = .read 256)
  polls : ∀ x, s.ssq.bus = some x → x.kind = .statusPoll → x.user = .poll ∨ x.user = .client .mount

/-- R150 to R155, R168: outside MOUNTED no job, recall, direct read, task, erase or allocation exists and no number is
reserved; UNMOUNTED, the tables are clear and nothing mounts; MOUNTING, a mount stands at a stage, nothing has been read
while it probes, and no record is in a state that only a request leaves; MOUNTED, no mount is in progress. -/
structure StoreSound (s : State) : Prop where
  idle : s.cat.store ≠ .mounted → s.sre.jobs = [] ∧ s.sre.recalling = none ∧ (∀ q, (s.port q).direct = none) ∧
    s.cat.tasks = [] ∧ s.cat.reclaim = none ∧ s.cat.alloc = .idle ∧ s.cat.reserved = none
  clear : (s.cat.store = .unmounted ∨ ∃ d, s.cat.store = .mounting ∧ stageOf s = some (.probe d)) →
    (∀ n, s.lesson n = {}) ∧ (∀ p, s.page p = {}) ∧ ∀ g, s.block g = none
  scanned : s.cat.store = .mounting → (∀ p, (s.page p).state = .empty ∨ (s.page p).state = .stored ∨
      (s.page p).state = .retired) ∧ ∀ n, (s.lesson n).state ≠ .rewriting
  mount : s.cat.mount.isSome = true ↔ s.cat.store = .mounting

/-- The catalogue, the block map, the jobs and the clients that work on them agree with each other. -/
structure CatalogueSound (s : State) : Prop where
  store : StoreSound s
  blocks : BlocksSound s
  jobs : JobsSound s
  tasks : TasksSound s
  lessons : LessonsSound s
  clients : ClientsSound s

end Sys2Proof.Machine
end

