-- ==== Sys2Proof/Certificates/Slice0/Obligations.lean ====
section
/-! DEFINITION. The statements put to the provers, in the order of OBLIGATIONS.json. `Serves p s` (Safety.lean) is
the condition of R187 under which a port takes a request at once. -/

open Sys2Proof Sys2Proof.Machine


/-- O1 (R187). For every command c and state s, a step of s with c at the front of its queue is exec of c on s
with the queue's rest; on an empty queue the part idles and the state stays (the model's choice, logs 1 to 3). -/
def Obligations.StepRunsFrontCommand : Prop :=
  (∀ (c : Instr) (rest : List Instr) (s : State),
    step { s with pending := c :: rest } = exec c { s with pending := rest }) ∧
  ∀ s : State, s.pending = [] → step s = .next s

/-- O2 (R3, R6, R9, R14, R23). Where the choice of R14 finds slot n, FRAME_START_PACKET makes slot n a FILLING
SENSOR slot with the packet's frame number and concealed count 0 and nothing else present, empties the
accumulation of 768 tiles, sets the expected line to 0, enters RECEIVING and restarts the link-loss timer. In
NO_SIGNAL an INTAKE_STATE notice of RECEIVING goes to all three ports first; in RECEIVING the frame in
progress is damaged first. Nothing else changes, frame memory included. -/
def Obligations.SensorFrameStartTakesSlot : Prop :=
  ∀ (frame : Half) (n : Nat) (s : State),
    let begun (b : State) : State :=
      { b.setSlot n { state := .filling, kind := some .sensor, frame := some frame.toNat, page := none, seq := none,
                      concealed := some 0, stats := none, holders := {} } with
        sst := { b.sst with acc := some emptyAccumulation }
        sin := { b.sin with state := .receiving, expected := 0, timer := some b.now } }
    (s.sin.state = .waitFrame → chooseSlot s = some n → exec (.frameStartPacket frame) s = .next (begun s)) ∧
    (s.sin.state = .noSignal → chooseSlot s = some n →
      exec (.frameStartPacket frame) s =
        .next (begun (postAll { kind := .intakeState, contents := u8 2 ++ optionalField u16 s.sin.lastFrame } s))) ∧
    (∀ m, s.sin.state = .receiving → fillingNumber s = some m → chooseSlot (damagedFrame m s) = some n →
      exec (.frameStartPacket frame) s = .next (begun (damagedFrame m s)))

/-- O3 (R13, R14). If any slot is FREE the choice is the lowest-numbered FREE slot; otherwise it is an unheld
READY slot of SENSOR kind whose publish sequence none of the others undercuts; it finds no slot only when
every slot is neither FREE nor such a candidate. So a held, FILLING or LOADING slot is never chosen. The query
for the newest READY slot answers a READY slot of SENSOR kind whose publish sequence none of the others
exceeds, and answers none exactly where no slot is READY with SENSOR kind; a slot of a page kind never counts. -/
def Obligations.SlotChoiceTakesLowestFreeOrOldest : Prop :=
  (∀ s : State,
    (∀ n, chooseSlot s = some n → n < 10 ∧
      (((s.slot n).state = .free ∧ ∀ m < n, (s.slot m).state ≠ .free) ∨
       ((∀ m < 10, (s.slot m).state ≠ .free) ∧ Candidate (s.slot n) ∧
         ∀ m < 10, Candidate (s.slot m) → ((s.slot n).seq).getD 0 ≤ ((s.slot m).seq).getD 0))) ∧
    (chooseSlot s = none ↔ ∀ m < 10, (s.slot m).state ≠ .free ∧ ¬ Candidate (s.slot m))) ∧
  ∀ s : State,
    (∀ n, newestReady s = some n → n < 10 ∧ (s.slot n).state = .ready ∧ (s.slot n).kind = some .sensor ∧
      ∀ m < 10, (s.slot m).state = .ready → (s.slot m).kind = some .sensor →
        ((s.slot m).seq).getD 0 ≤ ((s.slot n).seq).getD 0) ∧
    (newestReady s = none ↔ ∀ m < 10, (s.slot m).state = .ready → (s.slot m).kind ≠ some .sensor)

/-- O4 (R1, R4, R5, R6, R23). In RECEIVING with slot n FILLING: a sound line at the expected place below 3,072 is
written into its row and passed to the statistics, and the expected line advances; an unsound one there, with
fewer than 8 lines concealed, is replaced by the row above as it stands (for line 0 a black row), and both
concealed counts advance; a line out of place, and an unsound line after 8 concealed ones, frees the slot,
drops the statistics, counts a damaged frame and enters WAIT_FRAME. Each case gives the whole next state, so
every byte outside the row and everything else keep their values. -/
def Obligations.LinePacketWritesConcealsOrDamages : Prop :=
  ∀ (line pixels n : Nat) (data : List Byte) (checksum : Half) (s : State),
    s.sin.state = .receiving → fillingNumber s = some n →
    let row (d : List Byte) (b : State) : State :=
      { b with
        mem := memWrite b.mem (25165824 * n + 8192 * line) d
        sst := { b.sst with acc := b.sst.acc.map (addRow line (rowLuma d)) }
        sin := { b.sin with expected := line + 1 } }
    let k := ((s.slot n).concealed).getD 0
    (line = s.sin.expected → line < 3072 → SoundLine pixels data checksum →
      exec (.linePacket line pixels data checksum) s = .next (row data s)) ∧
    (line = s.sin.expected → line < 3072 → ¬ SoundLine pixels data checksum → k < 8 →
      exec (.linePacket line pixels data checksum) s =
        .next (row (if line = 0 then blackRow
                    else memReadRun s.mem (25165824 * n + 8192 * (line - 1)) 8192)
          { s.setSlot n { s.slot n with concealed := some (k + 1) } with
            sin := { s.sin with concealed := min 65535 (s.sin.concealed + 1) } })) ∧
    ((line ≠ s.sin.expected ∨ 3072 ≤ line ∨ (¬ SoundLine pixels data checksum ∧ 8 ≤ k)) →
      exec (.linePacket line pixels data checksum) s = .next (damagedFrame n s))

/-- O5 (R7, R12, R26, R27, R28, R31, R32, R34, R35, R47, R73, R119). In RECEIVING with slot n FILLING and the
publish counter below its top, FRAME_END_PACKET with 3,072 lines taken makes slot n READY with the next
publish sequence and the completed tile record, updates the paper map, previous means, motion count and focus
measure, records the frame number, and enters WAIT_FRAME; the other slots, frame memory, the display, the
pipes, the store, the jobs, the recall and all request and answer queues keep their values, but that a frame
or a save render in progress leaves the old paper map to the pixels it has computed by then (R31; how far each
has come is the free value of log 7), and the view changes only as R47 says. The next state is then what the
focus measure and the motion count, delivered to FOC (`focusPublish`) and after it the count to LIU
(`motionDelivered`), make of the published state, which is given whole: with the projector absent and the tap
OFF the views have reached their target zoom and a pending tone swap has been taken, before SST acts (the
model's choice, log 27). With fewer lines taken the frame is damaged. -/
def Obligations.FrameEndPublishesCompleteFrame : Prop :=
  ∀ (n : Nat) (s : State), s.sin.state = .receiving → fillingNumber s = some n →
    (s.sin.expected ≠ 3072 → exec .frameEndPacket s = .next (damagedFrame n s)) ∧
    (s.sin.expected = 3072 → s.fst.counter < 4294967295 →
      let record := (s.sst.acc.getD []).map tileRecord
      let motion := motionCount s.sst.delta s.sst.prev record
      ∃ t, exec .frameEndPacket s = .next t ∧
        t.slot n = { s.slot n with state := .ready, seq := some (s.fst.counter + 1), stats := some record } ∧
        (∀ m, m ≠ n → t.slot m = s.slot m) ∧ t.fst.counter = s.fst.counter + 1 ∧
        t.sin = { s.sin with state := .waitFrame, lastFrame := (s.slot n).frame } ∧
        t.sst.acc = none ∧ t.sst.map = updateMap s.sst.reseed s.sst.floor record s.sst.map ∧
        t.sst.prev = some (record.map TileStat.mean) ∧ t.sst.motion = some motion ∧
        (192 ≤ motion → t.sst.reseed = true) ∧ t.sst.floor = s.sst.floor ∧ t.sst.delta = s.sst.delta ∧
        t.sst.focus = some (focusMeasure (liveWindow t) record, (measuredTiles (liveWindow t)).length) ∧
        t.foc.last = some (focusMeasure (liveWindow t) record, motion) ∧
        (¬ (s.inputs.projectorPresent = false ∧ s.opt.applied = .off) → t.vwc = s.vwc ∧ t.ren = s.ren) ∧
        ((s.inputs.projectorPresent = false ∧ s.opt.applied = .off) →
          t.vwc.live = { s.vwc.live with zc := s.vwc.live.zt } ∧
          t.vwc.page = { s.vwc.page with zc := s.vwc.page.zt }) ∧
        (∃ k, t.opp = if s.opp.ctx.kind = .normal then
          { s.opp with ctx := { s.opp.ctx with marks := s.opp.ctx.marks ++ [(k, s.sst.map)] } } else s.opp) ∧
        (∃ k, t.opt = if s.opt.ctx.kind = .normal then
          { s.opt with ctx := { s.opt.ctx with marks := s.opt.ctx.marks ++ [(k, s.sst.map)] } } else s.opt) ∧
        (∃ k, t.sre.jobs = s.sre.jobs.map fun j =>
          if j.state = .rendering then { j with marks := j.marks ++ [(k, s.sst.map)] } else j) ∧
        t.sre.recalling = s.sre.recalling ∧ t.mem = s.mem ∧ t.disp = s.disp ∧ t.inputs = s.inputs ∧ t.ssq = s.ssq ∧
        t.cat = s.cat ∧ t.pending = s.pending ∧
        (∀ p, (t.port p).requests = (s.port p).requests ∧ (t.port p).answers = (s.port p).answers) ∧
        let off := !s.inputs.projectorPresent && decide (s.opt.applied = .off)
        let swapped : State := if off && s.ren.swap then
            postAll { kind := .toneCommitted, contents := [] }
              { s with ren := { s.ren with active := s.ren.staging, swap := false } }
          else s
        let jumped (v : ViewRecord) : ViewRecord := if off then { v with zc := v.zt } else v
        let live := jumped s.vwc.live
        let target := s.opp.applied.target
        let w := windowOf 4096 3072 target.1 target.2 live.zc live.qx live.qy
        let measure := focusMeasure w record
        let marked (k : Nat) (c : Context) : Context :=
          if c.kind = .normal then { c with marks := c.marks ++ [(k, s.sst.map)] } else c
        ∃ i j k c, (c = s.choices ∨ c = s.choices + 1) ∧
          let published : State := { swapped with
            fst := { s.fst with
              slots := s.fst.slots.setIfInBounds n
                { s.slot n with state := .ready, seq := some (s.fst.counter + 1), stats := some record }
              counter := s.fst.counter + 1 }
            sin := { s.sin with state := .waitFrame, lastFrame := (s.slot n).frame }
            vwc := { s.vwc with live := live, page := jumped s.vwc.page }
            choices := c
            opp := { s.opp with ctx := marked i s.opp.ctx }
            opt := { s.opt with ctx := marked j s.opt.ctx }
            sre := { s.sre with jobs := s.sre.jobs.map fun x =>
              if x.state = .rendering then { x with marks := x.marks ++ [(k, s.sst.map)] } else x }
            sst := { s.sst with
              acc := none, map := updateMap s.sst.reseed s.sst.floor record s.sst.map
              prev := some (record.map TileStat.mean), motion := some motion, reseed := decide (192 ≤ motion)
              focus := some (measure, (measuredTiles w).length) } }
          t = motionDelivered motion (focusPublish measure motion published))

/-- O6 (R1, R2, R6, R8, R9). Outside NO_SIGNAL with the timer running since moment m, LINK_LOSS_TIMER_EXPIRY first
damages the frame in the FILLING slot, if there is one, then stops the timer and enters NO_SIGNAL, and posts
INTAKE_STATE with NO_SIGNAL to the three ports; READY slots, frame memory and everything else stay. The clock
goes to m plus 500 ms, and stays where it is later already: the model's choice of log 4. UNRECOGNISED_PACKET
changes nothing in any state; LINE_PACKET and FRAME_END_PACKET change nothing outside RECEIVING.
LINK_LOSS_TIMER_EXPIRY changes nothing in NO_SIGNAL: R8 says only that the timer does not run there, and that
a command which cannot come changes nothing is the model's choice of log 1. -/
def Obligations.LinkLossEntersNoSignal : Prop :=
  (∀ s : State,
    (∀ contents, exec (.unrecognisedPacket contents) s = .next s) ∧
    (s.sin.state ≠ .receiving →
      (∀ l px data c, exec (.linePacket l px data c) s = .next s) ∧ exec .frameEndPacket s = .next s) ∧
    (s.sin.state = .noSignal → exec .linkLossTimerExpiry s = .next s)) ∧
  ∀ (m : Nat) (s : State), s.sin.state ≠ .noSignal → s.sin.timer = some m →
    let lost (b : State) : State :=
      postAll { kind := .intakeState, contents := u8 0 ++ optionalField u16 s.sin.lastFrame }
        { b with sin := { b.sin with state := .noSignal, timer := none }, now := max s.now (m + 500000) }
    (fillingNumber s = none → exec .linkLossTimerExpiry s = .next (lost s)) ∧
    (∀ n, fillingNumber s = some n → exec .linkLossTimerExpiry s = .next (lost (damagedFrame n s)))

/-- O7 (R12). Below its top the publish counter advances by one and no slot record changes. At its top,
4,294,967,295, the READY slots with distinct sequences take sequences from 1 to their number in the order they
had, every other record stays, and the counter becomes their number plus one. -/
def Obligations.RenumberingKeepsPublishOrder : Prop :=
  ∀ f : FrameStore,
    (f.counter < 4294967295 → advanceCounter f = { f with counter := f.counter + 1 }) ∧
    (f.counter = 4294967295 →
      let g := advanceCounter f
      let ready := fun (x : Slot) => decide (x.state = .ready)
      g.counter = (f.slots.toList.countP ready) + 1 ∧
      (∀ i j : Fin 10, f.slots[i].state = .ready → f.slots[j].state = .ready →
        (f.slots[i].seq.getD 0 < f.slots[j].seq.getD 0 → g.slots[i].seq.getD 0 < g.slots[j].seq.getD 0)) ∧
      (∀ i : Fin 10, f.slots[i].state = .ready →
        g.slots[i] = { f.slots[i] with seq := g.slots[i].seq } ∧ 1 ≤ g.slots[i].seq.getD 0 ∧
          g.slots[i].seq.getD 0 < g.counter) ∧
      ∀ i : Fin 10, f.slots[i].state ≠ .ready → g.slots[i] = f.slots[i])

/-- O8 (R24, R25). Take any frame of luma values 0 to 255, rows and columns numbered from 0, and pass its 3,072
rows of 4,096 values to the accumulation in order. Then the record of tile (c, r) is: the mean, the sum of its
16,384 values divided by 16,384 and rounded down; the white, the largest of its 64 block averages, each the
sum of 256 values divided by 256 and rounded down; the detail, the sum over rows 128r, 128r+4, … of the 127
neighbour differences inside the tile, divided by 16 and rounded down. Mean and white are at most 255, the
tile's sum at most 4,177,920, a block's at most 65,280, the differences at most 1,036,320 in total and the
detail at most 64,770. -/
def Obligations.TileRecordIsTrueMeanWhiteDetail : Prop :=
  ∀ L : Nat → Nat → Nat, (∀ y x, L y x ≤ 255) →
    let acc := (List.range 3072).foldl (fun a y => addRow y ((List.range 4096).map (L y)) a) emptyAccumulation
    ∀ c r, c < 32 → r < 24 → ∃ t, acc[32 * r + c]? = some t ∧
      let total := ((List.range 128).map fun y => ((List.range 128).map fun x => L (128 * r + y) (128 * c + x)).sum).sum
      let block (b : Nat) := ((List.range 16).map fun y => ((List.range 16).map fun x =>
        L (128 * r + 16 * (b / 8) + y) (128 * c + 16 * (b % 8) + x)).sum).sum
      let gap (a b : Nat) : Nat := ((a : Int) - (b : Int)).natAbs
      let gaps := ((List.range 32).map fun j => ((List.range 127).map fun x =>
        gap (L (128 * r + 4 * j) (128 * c + x + 1)) (L (128 * r + 4 * j) (128 * c + x))).sum).sum
      (tileRecord t).mean = total / 16384 ∧
      (∀ b < 64, block b / 256 ≤ (tileRecord t).white) ∧ (∃ b < 64, (tileRecord t).white = block b / 256) ∧
      (tileRecord t).detail = gaps / 16 ∧
      (tileRecord t).mean ≤ 255 ∧ (tileRecord t).white ≤ 255 ∧ total ≤ 4177920 ∧ (∀ b < 64, block b ≤ 65280) ∧
      gaps ≤ 1036320 ∧ (tileRecord t).detail ≤ 64770

/-- O9 (R27, R28, R29, R31, R32). For a record and a paper map of 768 tiles, what a publish does to the
statistics: each entry whose white is at least the floor takes the white where the reseed flag is set and (3W
+ white + 2) / 4 rounded down where it is clear, and every other entry keeps its value; the motion count is 0
where no previous means exist and else the number of tiles whose mean differs from the previous one by the
motion delta or more, at most 768; the frame's means become the previous ones; the reseed flag ends up set
exactly where the count is 192 or more; floor and delta stay. With the floor at least 32 and whites at most
255, an update of entries between 32 and 255 gives entries between 32 and 255. The gain of such an entry is
(65,280 + W/2) / W rounded down and clamped to 256 to 1024: 1024 for entries up to 63, 256 for 255, never
larger for a larger entry; where it is not clamped, R60 scales the entry itself to at least 254. -/
def Obligations.PublishUpdatesMapMeansAndMotion : Prop :=
  (∀ (record : List TileStat) (t : Statistics), record.length = 768 → t.map.length = 768 →
    (∀ means, t.prev = some means → means.length = 768) →
    let u := publishStatistics record t
    u.map.length = 768 ∧
    (∀ (i w : Nat) (x : TileStat), t.map[i]? = some w → record[i]? = some x →
      u.map[i]? = some (if x.white < t.floor then w
        else if t.reseed then x.white else (3 * w + x.white + 2) / 4)) ∧
    (t.prev = none → u.motion = some 0) ∧
    (∀ means, t.prev = some means →
      u.motion = some ((List.range 768).countP fun i =>
        decide (t.delta ≤ ((means.getD i 0 : Int) - ((record[i]?.map TileStat.mean).getD 0 : Int)).natAbs))) ∧
    (∀ m, u.motion = some m → m ≤ 768 ∧ (u.reseed = true ↔ 192 ≤ m)) ∧
    u.prev = some (record.map TileStat.mean) ∧ u.floor = t.floor ∧ u.delta = t.delta) ∧
  (∀ (reseed : Bool) (floor w white : Nat), 32 ≤ floor → 32 ≤ w → w ≤ 255 → white ≤ 255 →
    32 ≤ mapEntry reseed floor w white ∧ mapEntry reseed floor w white ≤ 255) ∧
  (∀ w, 32 ≤ w → w ≤ 255 → 256 ≤ flatteningGain w ∧ flatteningGain w ≤ 1024 ∧
    (w ≤ 63 → flatteningGain w = 1024) ∧ (64 ≤ w → flatteningGain w = (65280 + w / 2) / w ∧ 254 ≤ flattened w (flatteningGain w))) ∧
  flatteningGain 255 = 256 ∧
  ∀ v w, 32 ≤ v → v ≤ w → w ≤ 255 → flatteningGain w ≤ flatteningGain v

/-- O10 (R33, R36, R196). At a port that takes requests, GET_SCENE changes no statistics and answers OK with: for
SUMMARY the floor, delta, reseed flag, last motion count, last measure with its tile count and last frame
number; for MAP part k the 256 entries from 256k on; for TILES the frame number, a count byte of 32 and the 32
tiles of the row of the newest READY or the frozen slot, and NO_FRAME where there is no such slot; BAD_PARAM
for another section, part, row or source. SET_MOTION_DELTA sets the delta clamped to 1 to 64, answers it and
posts no notice. The model's choice (log 16): the measure and its number of tiles have a presence byte each,
and the count byte before MAP's 256 entries, which 256 does not fit, is a free value; and a tile row above 23
answers BAD_PARAM before the slot is looked for (log 44). -/
def Obligations.SceneRequestsReportStatistics : Prop :=
  ∀ (p : PortId) (item source delta : Byte) (s : State), Serves p s →
    let r := requestTaken p s
    exec (.getScene p 0 item source) s = .next (answer p .ok 0x28
      (u8 r.sst.floor ++ u8 r.sst.delta ++ flagByte r.sst.reseed ++ optionalField u16 r.sst.motion ++
        optionalField u32 (r.sst.focus.map Prod.fst) ++ optionalField u16 (r.sst.focus.map Prod.snd) ++
        optionalField u16 r.sin.lastFrame) r) ∧
    (item.toNat ≤ 2 → exec (.getScene p 1 item source) s = .next (answer p .ok 0x28
      (Config.mapCount :: ((r.sst.map.drop (256 * item.toNat)).take 256).flatMap u8) r)) ∧
    (∀ slot : Option Nat, item.toNat ≤ 23 →
      ((source = 0 ∧ slot = newestReady r) ∨ (source = 1 ∧ slot = holderSlot r .freeze)) →
      exec (.getScene p 2 item source) s = .next (match slot with
        | none => answer p .noFrame 0x28 [] r
        | some n =>
          let row := (((r.slot n).stats.getD []).drop (32 * item.toNat)).take 32
          answer p .ok 0x28 (u16 ((r.slot n).frame.getD 0) ++ u8 row.length ++
            row.flatMap fun t => u8 t.mean ++ u8 t.white ++ u16 t.detail) r)) ∧
    (∀ sectionByte : Byte, (2 < sectionByte.toNat ∨ (sectionByte = 1 ∧ 2 < item.toNat) ∨
        (sectionByte = 2 ∧ (23 < item.toNat ∨ 1 < source.toNat))) →
      exec (.getScene p sectionByte item source) s = .next (answer p .badParam 0x28 [] r)) ∧
    exec (.setMotionDelta p delta) s = .next (answer p .ok 0x29 (u8 (max 1 (min 64 delta.toNat)))
      { r with sst := { r.sst with delta := max 1 (min 64 delta.toNat) } })

/-- O11 (R40, R41, R43, R46, R50). For a source and target for which the width of R40 is not raised to 2, at any
zoom from 100 on and any requested centre: the window's width is even and at least 2, its height at least 1,
and it lies wholly inside the source; its centre is the requested one wherever the clamp of R41 allows; a
larger zoom gives no wider and no taller window. For each source kind the three 16:9 targets of the projector
share one window, and so do the three 8:9 halves. A glide step leaves target and centre as they are and moves
the current zoom towards the target by the rate, or onto it where it is nearer; at rate 0 it moves onto it at
once. From any zooms between 100 and 1600, steps at any positive rate reach the target within 1,500 steps and
stay there. -/
def Obligations.WindowInsideSourceAndGlideReachesTarget : Prop :=
  ((∀ sw sh wo ho z qx qy : Nat, 0 < wo → 0 < ho → 100 ≤ z → 2 * z ≤ min sw (sh * wo / ho) * 100 →
    let w := windowOf sw sh wo ho z qx qy
    w.w % 2 = 0 ∧ 2 ≤ w.w ∧ 1 ≤ w.h ∧ w.x0 + w.w ≤ sw ∧ w.y0 + w.h ≤ sh ∧
    w.cx = w.x0 + w.w / 2 ∧ w.cy = w.y0 + w.h / 2 ∧
    (w.w / 2 ≤ qx → qx ≤ sw - w.w / 2 → w.cx = qx) ∧
    (w.h / 2 ≤ qy → qy ≤ sh - w.h + w.h / 2 → w.cy = qy) ∧
    ∀ z' px py, z ≤ z' → 2 * z' ≤ min sw (sh * wo / ho) * 100 →
      (windowOf sw sh wo ho z' px py).w ≤ w.w ∧ (windowOf sw sh wo ho z' px py).h ≤ w.h) ∧
  ∀ (k : SlotKind) (z qx qy : Nat),
    windowOf k.width k.height 1280 720 z qx qy = windowOf k.width k.height 1920 1080 z qx qy ∧
    windowOf k.width k.height 3840 2160 z qx qy = windowOf k.width k.height 1920 1080 z qx qy ∧
    windowOf k.width k.height 640 720 z qx qy = windowOf k.width k.height 960 1080 z qx qy ∧
    windowOf k.width k.height 1920 2160 z qx qy = windowOf k.width k.height 960 1080 z qx qy) ∧
  ∀ (rate : Nat) (v : ViewRecord),
    let u := glideRecord rate v
    u.zt = v.zt ∧ u.qx = v.qx ∧ u.qy = v.qy ∧
    (rate = 0 → u.zc = v.zt) ∧
    (0 < rate → (u.zc : Int) = v.zc + max (-(rate : Int)) (min rate ((v.zt : Int) - v.zc))) ∧
    (0 < rate → 100 ≤ v.zt → v.zt ≤ 1600 → 100 ≤ v.zc → v.zc ≤ 1600 →
      ∃ k ≤ 1500, ∀ j, k ≤ j → (Nat.repeat (glideRecord rate) j v).zc = v.zt)

/-- O12 (R39, R43, R48, R49, R50, R51, R54, R196). At a port that takes requests, SET_VIEW changes the active
view, which is PAGE in display mode PAGE and LIVE otherwise: its target zoom becomes the zoom clamped to 100
to 1600 and its centre the point clamped to the view's geometry, its current zoom stays; SET_GLIDE makes the
glide rate the value clamped to 0 to 200. NUDGE_VIEW moves the active view's target zoom by the delta clamped
to ±1500, within 100 to 1600, and sets its requested centre to the effective centre of the view's projector
window plus the pan, clamped to the view's geometry; the pan is the offset in output pixels, clamped to ±3840
and ±2160, times the window size over the target size, truncated toward zero. Each answers OK with the values
as taken, NUDGE_VIEW with the pan too, and posts VIEW_CHANGED with the port as cause to the other two ports;
nothing else changes. GET_VIEW answers OK with the active view, the glide rate, the LIVE record and its
projector window, the PAGE record with geometry and window where the geometry is present, and the projector
target; only the answer is added. That one presence byte stands before the width and height of the geometry,
and one before the fields of the PAGE window, is the model's choice of log 16. -/
def Obligations.ViewRequestsTakeClampedValues : Prop :=
  ((∀ (p : PortId) (zoom qx qy rate : Half) (s : State), Serves p s →
    let r := requestTaken p s
    let zt := max 100 (min 1600 zoom.toNat)
    let told (t : State) : State := postOthers p (viewNotice (u8 (portNumber p)) t) t
    (r.disp.mode ≠ .page →
      let x := min 4095 qx.toNat
      let y := min 3071 qy.toNat
      exec (.setView p zoom qx qy) s = .next (answer p .ok 0x10 (u8 0 ++ u16 zt ++ u16 x ++ u16 y)
        (told { r with vwc := { r.vwc with live := { r.vwc.live with zt := zt, qx := x, qy := y } } }))) ∧
    (∀ m, r.disp.mode = .page → r.vwc.geom = some m →
      let x := min (m.kind.width - 1) qx.toNat
      let y := min (m.kind.height - 1) qy.toNat
      exec (.setView p zoom qx qy) s = .next (answer p .ok 0x10 (u8 1 ++ u16 zt ++ u16 x ++ u16 y)
        (told { r with vwc := { r.vwc with page := { r.vwc.page with zt := zt, qx := x, qy := y } } }))) ∧
    exec (.setGlide p rate) s = .next (answer p .ok 0x12 (u8 (min 200 rate.toNat))
      (told { r with vwc := { r.vwc with glide := min 200 rate.toNat } }))) ∧
  ∀ (p : PortId) (zoomDelta dx dy : Half) (s : State), Serves p s →
    let r := requestTaken p s
    let t := r.opp.applied.target
    let told (u : State) : State := postOthers p (viewNotice (u8 (portNumber p)) u) u
    let zt (v : ViewRecord) : Nat := (max 100 (min 1600 ((v.zt : Int) + max (-1500) (min 1500 zoomDelta.toInt)))).toNat
    let px (w : Window) : Int := (max (-3840) (min 3840 dx.toInt) * (w.w : Int)).tdiv t.1
    let py (w : Window) : Int := (max (-2160) (min 2160 dy.toInt) * (w.h : Int)).tdiv t.2
    let nudged (k : SlotKind) (v : ViewRecord) : ViewRecord :=
      let w := windowOf k.width k.height t.1 t.2 v.zc v.qx v.qy
      { v with
        zt := zt v
        qx := (max 0 (min ((k.width : Int) - 1) ((w.cx : Int) + px w))).toNat
        qy := (max 0 (min ((k.height : Int) - 1) ((w.cy : Int) + py w))).toNat }
    let taken (record : Nat) (k : SlotKind) (v : ViewRecord) (u : State) : Prop :=
      let w := windowOf k.width k.height t.1 t.2 v.zc v.qx v.qy
      let x := nudged k v
      exec (.nudgeView p zoomDelta dx dy) s = .next (answer p .ok 0x11
        (u8 record ++ u16 x.zt ++ u16 x.qx ++ u16 x.qy ++ s16 (px w) ++ s16 (py w)) (told u))
    (r.disp.mode ≠ .page → taken 0 .sensor r.vwc.live
      { r with vwc := { r.vwc with live := nudged .sensor r.vwc.live } }) ∧
    ∀ m, r.disp.mode = .page → r.vwc.geom = some m → taken 1 m.kind r.vwc.page
      { r with vwc := { r.vwc with page := nudged m.kind r.vwc.page } }) ∧
  ∀ (p : PortId) (s : State), Serves p s →
    let r := requestTaken p s
    let t := r.opp.applied.target
    let rec4 (v : ViewRecord) : List Byte := u16 v.zt ++ u16 v.zc ++ u16 v.qx ++ u16 v.qy
    let win (w : Window) : List Byte := u16 w.cx ++ u16 w.cy ++ u16 w.x0 ++ u16 w.y0 ++ u16 w.w ++ u16 w.h
    let l := r.vwc.live
    let g := r.vwc.page
    exec (.getView p) s = .next (answer p .ok 0x13
      (u8 (if r.disp.mode = .page then 1 else 0) ++ u8 r.vwc.glide ++ rec4 l ++
        win (windowOf 4096 3072 t.1 t.2 l.zc l.qx l.qy) ++ rec4 g ++
        (match r.vwc.geom with
          | none => [0]
          | some m => 1 :: (u16 m.kind.width ++ u16 m.kind.height)) ++
        (match r.vwc.geom with
          | none => [0]
          | some m => 1 :: win (windowOf m.kind.width m.kind.height t.1 t.2 g.zc g.qx g.qy)) ++
        u16 t.1 ++ u16 t.2) r)

/-- O13 (R57, R58, R60, R61, R63). For any window the source position of an output pixel lies between 0 and 256
times the last sample, so that its whole part names a sample of the source and its fraction is 0 on the last
one. The four weights of step 2 sum to 65,536; the result lies between the least and the greatest of the four
samples, is P00 itself at fractions 0, and never exceeds 255. Two renders of one source slot of a page kind
over one window and target give the same luma and chroma whatever their enhancement records, tone tables and
paper maps are, and that luma is the interpolated luma of step 2. For a SENSOR source with flatten OFF and
strength 0 the luma is the tone table's entry for the interpolated luma. -/
def Obligations.InterpolationAveragesAndPagesBypassTheRest : Prop :=
  ((∀ i origin window target size : Nat, 0 < size →
    sourcePosition i origin window target size ≤ 256 * (size - 1) ∧
    sourcePosition i origin window target size / 256 < size ∧
    (sourcePosition i origin window target size / 256 = size - 1 →
      sourcePosition i origin window target size % 256 = 0)) ∧
  ∀ fx fy a b c d : Nat, fx < 256 → fy < 256 → a ≤ 255 → b ≤ 255 → c ≤ 255 → d ≤ 255 →
    (256 - fx) * (256 - fy) + fx * (256 - fy) + (256 - fx) * fy + fx * fy = 65536 ∧
    min (min a b) (min c d) ≤ bilinear fx fy a b c d ∧ bilinear fx fy a b c d ≤ max (max a b) (max c d) ∧
    bilinear 0 0 a b c d = a ∧ bilinear fx fy a b c d ≤ 255) ∧
  ∀ (r : RenderInput) (e : Enhance) (tone : List Byte) (paper : Nat → List Nat) (i j : Nat),
    (r.kind ≠ .sensor → renderPixel { r with enh := e, tone := tone, paper := paper } i j = renderPixel r i j ∧
      (renderPixel r i j).y = interpolatedLuma r i j) ∧
    (r.kind = .sensor → r.enh.flatten = false → r.enh.sharpen = 0 →
      (renderPixel r i j).y = (r.tone.getD (interpolatedLuma r i j) 0).toNat)

/-- O14 (R61, R62). For an output pixel (i, j) of a raster, with F the flattened luma of step 4 and neighbours
outside the raster taken at the clamped column and row: the blur is B = (4F + 2(N + S + E + W) + corners + 8)
/ 16 rounded down; D = F − B is cored by k; for a SENSOR source with s above 0 the result is F plus D cored
times s over 8 truncated toward zero, clamped to 0 to 255, and otherwise it is F. Every F lies between 0 and
255, B between 0 and 255, D between −191 and 191, and the correction at s up to 31 between −740 and 740. -/
def Obligations.SharpeningFollowsBlurAndCore : Prop :=
  ∀ (r : RenderInput) (i j : Nat), i < r.wo → j < r.ho →
    let F (dx dy : Int) : Nat :=
      flatLuma r (max 0 (min ((r.wo : Int) - 1) ((i : Int) + dx))).toNat
        (max 0 (min ((r.ho : Int) - 1) ((j : Int) + dy))).toNat
    let B := (4 * F 0 0 + 2 * (F 0 (-1) + F 0 1 + F 1 0 + F (-1) 0) +
      (F 1 (-1) + F (-1) (-1) + F 1 1 + F (-1) 1) + 8) / 16
    let D : Int := (F 0 0 : Int) - (B : Int)
    let k : Int := r.enh.core
    let Dc : Int := if D ≤ k ∧ -k ≤ D then 0 else if k < D then D - k else D + k
    (r.kind = .sensor → 0 < r.enh.sharpen →
      (sharpLuma r i j : Int) = max 0 (min 255 ((F 0 0 : Int) + (Dc * r.enh.sharpen).tdiv 8))) ∧
    ((r.kind ≠ .sensor ∨ r.enh.sharpen = 0) → sharpLuma r i j = F 0 0) ∧
    (∀ x y, flatLuma r x y ≤ 255) ∧ B ≤ 255 ∧ -191 ≤ D ∧ D ≤ 191 ∧
    (r.enh.sharpen ≤ 31 → -740 ≤ (Dc * r.enh.sharpen).tdiv 8 ∧ (Dc * r.enh.sharpen).tdiv 8 ≤ 740)

/-- O15 (R65, R67, R196). Byte n of the TEXT image of a save render, decoded as a recall decodes it, gives eight
pixels of the page, the leftmost first, each with chroma 128 and luma 16 where the render's final luma is
below the text threshold and 235 where it is not; the image has 1,036,800 bytes. -/
def Obligations.TextImageDecodesToThresholdedPage : Prop :=
  ∀ (r : RenderInput) (n : Nat),
    textPixels (textByte r n) = (List.range 8).flatMap (fun b =>
      [(128 : Byte), if finalLuma r (8 * (n % 480) + b) (n / 480) < r.enh.threshold then 16 else 235]) ∧
    (textImage r).length = 1036800 ∧ (n < 1036800 → (textImage r)[n]? = some (textByte r n))

/-- O16 (R30, R69, R70, R196). At a port that takes requests: a flatten field other than ON (0) or OFF (1) is
answered BAD_PARAM and changes no field; otherwise SET_ENHANCE takes each carried field (strength and core
clamped to 31, threshold to 1 to 254, the paper floor to 32 to 192, a changed floor setting the reseed flag),
keeps the others, answers OK with the record and floor and posts ENHANCE_CHANGED to the other two ports.
GET_ENHANCE answers the record, the floor, whether a swap is pending and the port's tone pointer. Nothing else
changes. -/
def Obligations.EnhanceRequestsClampAndReport : Prop :=
  ∀ (p : PortId) (flatten sharpen core threshold floor : Option Byte) (s : State), Serves p s →
    let r := requestTaken p s
    let fields (e : Enhance) : List Byte :=
      u8 (if e.flatten then 0 else 1) ++ u8 e.sharpen ++ u8 e.core ++ u8 e.threshold
    ((flatten = none ∨ flatten = some 0 ∨ flatten = some 1) →
      let e : Enhance :=
        { flatten := if flatten = some 0 then true else if flatten = some 1 then false else r.ren.enh.flatten
          sharpen := match sharpen with
            | none => r.ren.enh.sharpen
            | some b => min 31 b.toNat
          core := match core with
            | none => r.ren.enh.core
            | some b => min 31 b.toNat
          threshold := match threshold with
            | none => r.ren.enh.threshold
            | some b => max 1 (min 254 b.toNat) }
      let f := match floor with
        | none => r.sst.floor
        | some b => max 32 (min 192 b.toNat)
      let t : State := { r with
        ren := { r.ren with enh := e }
        sst := { r.sst with floor := f, reseed := r.sst.reseed || !decide (f = r.sst.floor) } }
      exec (.setEnhance p flatten sharpen core threshold floor) s = .next (answer p .ok 0x18 (fields e ++ u8 f)
        (postOthers p { kind := .enhanceChanged, contents := fields e ++ u8 f ++ u8 (portNumber p) } t))) ∧
    (∀ b : Byte, flatten = some b → 1 < b.toNat →
      exec (.setEnhance p flatten sharpen core threshold floor) s = .next (answer p .badParam 0x18 [] r)) ∧
    exec (.getEnhance p) s = .next (answer p .ok 0x19
      (fields r.ren.enh ++ u8 r.sst.floor ++ flagByte r.ren.swap ++ u16 (r.port p).tone) r)

/-- O17 (R70, R71, R72, R73, R196). At a port that takes requests, with banks of 256 entries: LOAD_TONE of 1 to 64
values from a start index up to 255 writes them in order into the staging bank, drops those beyond entry 255,
and leaves the port's tone pointer behind the last one written; LOAD_TONE_NEXT does the same from the pointer,
up to 256, where nothing is written; both answer the number written and the new pointer, which at 256 R72 does
not say (the model's choice, log 33). COMMIT_TONE marks the swap pending. GET_TONE answers the bank, the start
and up to 64 entries. A start above 255 or an unknown bank is answered BAD_PARAM. The active bank and all else
keep their values. -/
def Obligations.ToneRequestsLoadCommitAndReport : Prop :=
  ∀ (p : PortId) (start : Half) (count bank : Byte) (values : List Byte) (s : State), Serves p s →
    s.ren.staging.length = 256 → 1 ≤ values.length → values.length ≤ 64 →
    let r := requestTaken p s
    let loaded (code : Byte) (from_ : Nat) (o : Result) : Prop :=
      let n := min values.length (256 - from_)
      ∃ b : List Byte, b.length = 256 ∧
        (∀ i, i < 256 → b[i]? = if from_ ≤ i ∧ i < from_ + n then values[i - from_]? else r.ren.staging[i]?) ∧
        o = .next (answer p .ok code (u8 n ++ u16 (from_ + n))
          (State.modPort { r with ren := { r.ren with staging := b } } p fun q => { q with tone := from_ + n }))
    (start.toNat ≤ 255 → loaded 0x1A start.toNat (exec (.loadTone p start values) s)) ∧
    (255 < start.toNat → exec (.loadTone p start values) s = .next (answer p .badParam 0x1A [] r)) ∧
    ((s.port p).tone ≤ 256 → loaded 0x1B (s.port p).tone (exec (.loadToneNext p values) s)) ∧
    exec (.commitTone p) s = .next (answer p .ok 0x1C [] { r with ren := { r.ren with swap := true } }) ∧
    (bank.toNat ≤ 1 → start.toNat ≤ 255 →
      let l := ((if bank = 0 then r.ren.active else r.ren.staging).drop start.toNat).take (max 1 (min 64 count.toNat))
      exec (.getTone p bank start count) s =
        .next (answer p .ok 0x1D (u8 bank.toNat ++ u8 start.toNat ++ u8 l.length ++ l) r)) ∧
    ((1 < bank.toNat ∨ 255 < start.toNat) →
      exec (.getTone p bank start count) s = .next (answer p .badParam 0x1D [] r))

/-- O18 (R46, R47, R73, R78, R79, R80, R81, R83). PROJECTOR_FRAME_START first makes a pending mode the applied
one. With the input low the frame kind is NONE, no scan holder stays, and nothing else happens. With it high
both views take a glide step and a pending tone swap is taken; then in DOZE, or in LIVE with no READY SENSOR
slot, the frame is BLACK with an empty scan set. Otherwise it is NORMAL: LIVE latches the newest READY slot
with the LIVE window, FROZEN and PAGE the slot of their holder (the PAGE view for a page slot), SPLIT the
newest slot and the reference slot with half-width windows, the reference at zoom 100 centred, and the scan
set is exactly those slots. The enhancement record and the active tone bank are copied. That a BLACK frame
carries the whole-frame mark is the model's choice (log 34). -/
def Obligations.ProjectorFrameStartLatchesItsFrame : Prop :=
  ∀ s : State,
    let q : Pipe ProjectorMode :=
      { applied := s.opp.pending.getD s.opp.applied, pending := none, ctx := s.opp.ctx }
    let g : State := { s with
      opp := q
      vwc := { s.vwc with live := glideRecord s.vwc.glide s.vwc.live, page := glideRecord s.vwc.glide s.vwc.page } }
    let a : State := if s.ren.swap then
        postAll { kind := .toneCommitted, contents := [] }
          { g with ren := { g.ren with active := g.ren.staging, swap := false } }
      else g
    let t := q.applied.target
    let shows (c : Context) (set : List Nat) : Prop :=
      exec .projectorFrameStart s = .next (changeScan .scanP set { a with opp := { a.opp with ctx := c } })
    let latch (k : SlotKind) (wo zc qx qy : Nat) : ViewLatch :=
      { zc := zc, qx := qx, qy := qy, kind := k, window := windowOf k.width k.height wo t.2 zc qx qy }
    let live (wo : Nat) : ViewLatch := latch .sensor wo a.vwc.live.zc a.vwc.live.qx a.vwc.live.qy
    let black : Context := { kind := .black, blackWhole := true }
    let normal (m : DisplayMode) (n : Nat) (v : ViewLatch) : Context :=
      { kind := .normal, mode := some m, live := some n, liveView := some v, enh := some s.ren.enh,
        tone := some a.ren.active }
    (s.inputs.projectorPresent = false → exec .projectorFrameStart s =
      .next (changeScan .scanP [] { s with opp := { q with ctx := {} } })) ∧
    (s.inputs.projectorPresent = true →
      (s.liu.doze = true → shows black []) ∧
      (s.liu.doze = false →
        (s.disp.mode = .live → newestReady s = none → shows black []) ∧
        (∀ n, s.disp.mode = .live → newestReady s = some n → shows (normal .live n (live t.1)) [n]) ∧
        (∀ n, s.disp.mode = .frozen → holderSlot s .freeze = some n → (s.slot n).kind = some .sensor →
          shows (normal .frozen n (live t.1)) [n]) ∧
        (∀ n (m : PageMode), s.disp.mode = .page → holderSlot s .page = some n → (s.slot n).kind = some m.kind →
          shows (normal .page n (latch m.kind t.1 a.vwc.page.zc a.vwc.page.qx a.vwc.page.qy)) [n]) ∧
        (∀ ref n k, s.disp.mode = .split → s.disp.ref = some ref →
          holderSlot s (match ref with
            | .freeze => .freeze
            | .page => .page) = some n → (s.slot n).kind = some k →
          let reference := latch k (t.1 / 2) 100 (k.width / 2) (k.height / 2)
          let split (l : Option Nat) : Context :=
            { kind := .normal, mode := some .split, ref := some ref, live := l, reference := some n,
              liveView := l.map fun _ => live (t.1 / 2), refView := some reference, enh := some s.ren.enh,
              tone := some a.ren.active, blackLive := l.isNone }
          (newestReady s = none → shows (split none) [n]) ∧
          (∀ l, newestReady s = some l → shows (split (some l)) [l, n]))))

/-- O19 (R44, R75, R78, R80, R81, R95). Where the tap's mode becomes OFF at a TAP_FRAME_START the context is NONE
and no scan holder stays. Otherwise the glide step and the tone swap are taken where the projector is absent;
then, not ready, the frame is SKIPPED, the skipped counter advances up to 65,535 and no scan holder stays;
ready it is BLACK with an empty scan set in DOZE, and in LIVE with no READY SENSOR slot; else it is NORMAL:
LIVE latches the newest READY slot with the LIVE window, FROZEN and PAGE the slot of their holder (the PAGE
view for a page slot), SPLIT the newest slot and the reference slot with half-width windows, the reference at
zoom 100 centred, the scan set being exactly those slots, and the enhancement record and the active tone bank
are copied. The model's choices: the tap-ready level comes with the command (log 10); with the mode OFF and
none pending, where R75 gives no frame start, only that level is taken (log 1); a BLACK frame carries the
whole-frame mark (log 34). -/
def Obligations.TapFrameStartSkipsOrLatches : Prop :=
  ∀ (ready : Bool) (s : State),
    let s0 : State := { s with inputs := { s.inputs with tapReady := ready } }
    (s.opt.applied = .off → s.opt.pending = none → exec (.tapFrameStart ready) s = .next s0) ∧
    (s.opt.pending = some .off → exec (.tapFrameStart ready) s =
      .next (changeScan .scanT [] { s0 with opt := { applied := .off, pending := none, ctx := {} } })) ∧
    ∀ m : TapMode, m ≠ .off → s.opt.pending.getD s.opt.applied = m →
      let g : State := { s0 with opt := { s.opt with applied := m, pending := none } }
      let a : State := if s.inputs.projectorPresent then g else toneSwap { g with
        vwc := { s.vwc with live := glideRecord s.vwc.glide s.vwc.live, page := glideRecord s.vwc.glide s.vwc.page } }
      let shows (c : Context) (set : List Nat) (b : State) : Prop :=
        exec (.tapFrameStart ready) s = .next (changeScan .scanT set { b with opt := { b.opt with ctx := c } })
      let latch (k : SlotKind) (wo zc qx qy : Nat) : ViewLatch :=
        { zc := zc, qx := qx, qy := qy, kind := k, window := windowOf k.width k.height wo m.target.2 zc qx qy }
      let live (wo : Nat) : ViewLatch := latch .sensor wo a.vwc.live.zc a.vwc.live.qx a.vwc.live.qy
      let black : Context := { kind := .black, blackWhole := true }
      let normal (d : DisplayMode) (n : Nat) (v : ViewLatch) : Context :=
        { kind := .normal, mode := some d, live := some n, liveView := some v, enh := some s.ren.enh,
          tone := some a.ren.active }
      (ready = false → shows { kind := .skipped } [] { a with skipped := min 65535 (s.skipped + 1) }) ∧
      (ready = true → s.liu.doze = true → shows black [] a) ∧
      (ready = true → s.liu.doze = false →
        (s.disp.mode = .live → newestReady s = none → shows black [] a) ∧
        (∀ n, s.disp.mode = .live → newestReady s = some n → shows (normal .live n (live m.target.1)) [n] a) ∧
        (∀ n, s.disp.mode = .frozen → holderSlot s .freeze = some n → (s.slot n).kind = some .sensor →
          shows (normal .frozen n (live m.target.1)) [n] a) ∧
        (∀ n (k : PageMode), s.disp.mode = .page → holderSlot s .page = some n → (s.slot n).kind = some k.kind →
          shows (normal .page n (latch k.kind m.target.1 a.vwc.page.zc a.vwc.page.qx a.vwc.page.qy)) [n] a) ∧
        (∀ ref n k, s.disp.mode = .split → s.disp.ref = some ref →
          holderSlot s (match ref with
            | .freeze => .freeze
            | .page => .page) = some n → (s.slot n).kind = some k →
          let reference := latch k (m.target.1 / 2) 100 (k.width / 2) (k.height / 2)
          let split (l : Option Nat) : Context :=
            { kind := .normal, mode := some .split, ref := some ref, live := l, reference := some n,
              liveView := l.map fun _ => live (m.target.1 / 2), refView := some reference, enh := some s.ren.enh,
              tone := some a.ren.active, blackLive := l.isNone }
          (newestReady s = none → shows (split none) [n] a) ∧
          (∀ l, newestReady s = some l → shows (split (some l)) [l, n] a)))

/-- O20 (R15, R16, R17, R18, R85). When a pipe hands over a scan set, its holder stands on every slot of the set
and on no other; a READY page slot left without any holder becomes FREE, every other slot keeps its record but
for that holder, and nothing outside the slot table changes. When FREEZE or PAGE leaves its slot, that slot
loses it, each pipe that scans the slot as its split reference alone loses its scan holder there, and each
pipe whose reference it is marks the reference half black. The slot keeps its other holders and the rest of
its record, READY as it was where it is of SENSOR kind, but a READY page slot left without any holder becomes
FREE; every other slot keeps its record. Where the holder is on no slot nothing happens. -/
def Obligations.HoldersMoveAsTheRulesGive : Prop :=
  (∀ (k : HolderKind) (set : List Nat) (s : State),
    let t := changeScan k set s
    t = { s with fst := { s.fst with slots := t.fst.slots } } ∧
    ∀ n < 10,
      let x := s.slot n
      let y : Slot := { x with holders := x.holders.put k false }
      (n ∈ set → t.slot n = { x with holders := x.holders.put k true }) ∧
      (n ∉ set → x.holders.has k = false → t.slot n = x) ∧
      (n ∉ set → x.holders.has k = true → t.slot n =
        if x.state = .ready ∧ (x.kind = some .pageText ∨ x.kind = some .pagePhoto) ∧ y.holders = {} then {} else y)) ∧
  ∀ (k : HolderKind) (s : State), (k = .freeze ∨ k = .page) →
    (holderSlot s k = none → leaveHolder k s = s) ∧
    ∀ n, holderSlot s k = some n →
      let t := leaveHolder k s
      t = { s with fst := { s.fst with slots := t.fst.slots }, opp := t.opp, opt := t.opt } ∧
      let x := s.slot n
      let alone (c : Context) : Bool := decide (c.reference = some n) && !decide (c.live = some n)
      let h : Holders := { x.holders.put k false with
        scanP := x.holders.scanP && !alone s.opp.ctx
        scanT := x.holders.scanT && !alone s.opt.ctx }
      (t.slot n).holders.has k = false ∧
      (s.opp.ctx.reference = some n → s.opp.ctx.live ≠ some n → (t.slot n).holders.scanP = false) ∧
      (s.opt.ctx.reference = some n → s.opt.ctx.live ≠ some n → (t.slot n).holders.scanT = false) ∧
      (t.slot n = if x.state = .ready ∧ (x.kind = some .pageText ∨ x.kind = some .pagePhoto) ∧ h = {} then {}
        else { x with holders := h }) ∧
      t.opp = { s.opp with ctx := { s.opp.ctx with
        blackRef := s.opp.ctx.blackRef || decide (s.opp.ctx.reference = some n) } } ∧
      t.opt = { s.opt with ctx := { s.opt.ctx with
        blackRef := s.opt.ctx.blackRef || decide (s.opt.ctx.reference = some n) } } ∧
      ∀ m, m ≠ n → t.slot m = s.slot m

/-- O21 (R77, R94, R96, R196). PROJECTOR_PRESENT_FALL lowers the input, makes the projector's context NONE,
releases its scan holders and posts PROJECTOR_STATE ABSENT (0) to all ports; PROJECTOR_PRESENT_RISE raises the
input and posts PRESENT (1). At a port that takes requests, SET_OUTPUT with two known modes makes each one
pending that differs from the applied mode and drops the pending mode otherwise, answers the four values and
posts OUTPUT_CHANGED with them and the port to the other two; an unknown mode is answered BAD_PARAM and
changes nothing. GET_OUTPUT answers the fields of R96 and changes nothing else. The model's choices: an edge
is applied and notified whatever the level was before (log 11); the NONE context that a fall leaves has its
black marks clear (log 41); the tap-ready level is a free value each time it is reported, counted on by one
(log 10); and each field that may be absent has a presence byte of its own (log 16). -/
def Obligations.PresenceAndOutputModeRequests : Prop :=
  (∀ s : State,
    exec .projectorPresentFall s = .next (postAll { kind := .projectorState, contents := [0] }
      (changeScan .scanP []
        { s with inputs := { s.inputs with projectorPresent := false }, opp := { s.opp with ctx := {} } })) ∧
    exec .projectorPresentRise s = .next (postAll { kind := .projectorState, contents := [1] }
      { s with inputs := { s.inputs with projectorPresent := true } })) ∧
  ∀ (p : PortId) (a b : Byte) (s : State), Serves p s →
    let r := requestTaken p s
    let maybe {α : Type} (f : α → List Byte) (x : Option α) : List Byte := match x with
      | none => [0]
      | some v => 1 :: f v
    let modes (t : State) : List Byte :=
      u8 t.opp.applied.code ++ maybe (fun m => u8 m.code) t.opp.pending ++ u8 t.opt.applied.code ++
        maybe (fun m => u8 m.code) t.opt.pending
    (∀ (m : ProjectorMode) (n : TapMode), a.toNat = m.code → b.toNat = n.code →
      let t : State := { r with
        opp := { r.opp with pending := if m = r.opp.applied then none else some m }
        opt := { r.opt with pending := if n = r.opt.applied then none else some n } }
      exec (.setOutput p a b) s = .next (answer p .ok 0x20 (modes t)
        (postOthers p { kind := .outputChanged, contents := modes t ++ u8 (portNumber p) } t))) ∧
    ((2 < a.toNat ∨ 2 < b.toNat) → exec (.setOutput p a b) s = .next (answer p .badParam 0x20 [] r)) ∧
    let f := holderSlot r .freeze
    let g := holderSlot r .page
    let context (c : Context) : List Byte :=
      u8 c.kind.code ++ maybe u8 c.live ++ maybe u8 c.reference ++ flagByte c.blackWhole ++ flagByte c.blackLive ++
        flagByte c.blackRef
    let level := Config.tapReadyLevel r.choices
    exec (.getOutput p) s = .next (answer p .ok 0x21
      (modes r ++ flagByte r.inputs.projectorPresent ++ flagByte level ++ u8 r.disp.mode.code ++
        maybe (fun x => u8 x.code) r.disp.ref ++ maybe u8 f ++ maybe u16 (f.bind fun n => (r.slot n).frame) ++
        maybe u8 g ++ maybe u16 (g.bind fun n => (r.slot n).page) ++ context r.opp.ctx ++ context r.opt.ctx ++
        u16 r.skipped) { r with choices := r.choices + 1, inputs := { r.inputs with tapReady := level } })

/-- O22 (R18, R86, R87, R88, R89, R90, R91, R93). At a port that takes requests. FREEZE puts FREEZE on the newest
READY slot, leaving the slot it was on, and shows FROZEN; without such a slot it is answered NO_FRAME.
SHOW_LIVE shows LIVE. RELEASE_FREEZE removes FREEZE and turns FROZEN and SPLIT on FREEZE into LIVE. SHOW_PAGE
shows PAGE, or is answered NO_PAGE without a PAGE holder. SPLIT shows the page beside the named reference; it
is answered NO_FRAME or NO_PAGE without its holder and BAD_PARAM for an unknown reference. A refusal changes
nothing; an OK posts DISPLAY_CHANGED to the other two ports where the mode, the reference or the FREEZE slot
changed. -/
def Obligations.DisplayRequestsFollowTheirTable : Prop :=
  ∀ (p : PortId) (s : State), Serves p s →
    let r := requestTaken p s
    let maybe (f : Nat → List Byte) (x : Option Nat) : List Byte := match x with
      | none => [0]
      | some v => 1 :: f v
    let notice (t : State) : Notice :=
      { kind := .displayChanged
        contents := u8 t.disp.mode.code ++ maybe u8 (t.disp.ref.map SplitRef.code) ++
          maybe u16 ((holderSlot t .freeze).bind fun n => (t.slot n).frame) ++
          maybe u16 ((holderSlot t .page).bind fun n => (t.slot n).page) ++ u8 (portNumber p) }
    let done (code : Byte) (t : State) : Result :=
      .next (answer p .ok code []
        (if t.disp = r.disp ∧ holderSlot t .freeze = holderSlot r .freeze then t else postOthers p (notice t) t))
    let shows (m : DisplayMode) (ref : Option SplitRef) (t : State) : State := { t with disp := { mode := m, ref := ref } }
    (newestReady r = none → exec (.freeze p) s = .next (answer p .noFrame 0x22 [] r)) ∧
    (∀ n, newestReady r = some n → exec (.freeze p) s = done 0x22 (shows .frozen none
      (if (r.slot n).holders.freeze then r else placeHolder .freeze n (leaveHolder .freeze r)))) ∧
    exec (.showLive p) s = done 0x23 (shows .live none r) ∧
    (let t := leaveHolder .freeze r
     exec (.releaseFreeze p) s = done 0x24
        (if r.disp.mode = .frozen ∨ (r.disp.mode = .split ∧ r.disp.ref = some .freeze) then shows .live none t else t)) ∧
    (holderSlot r .page = none → exec (.showPage p) s = .next (answer p .noPage 0x25 [] r) ∧
      exec (.split p 1) s = .next (answer p .noPage 0x26 [] r)) ∧
    (∀ n, holderSlot r .page = some n → exec (.showPage p) s = done 0x25 (shows .page none r) ∧
      exec (.split p 1) s = done 0x26 (shows .split (some .page) r)) ∧
    (holderSlot r .freeze = none → exec (.split p 0) s = .next (answer p .noFrame 0x26 [] r)) ∧
    (∀ n, holderSlot r .freeze = some n → exec (.split p 0) s = done 0x26 (shows .split (some .freeze) r)) ∧
    ∀ b : Byte, 1 < b.toNat → exec (.split p b) s = .next (answer p .badParam 0x26 [] r)

/-- O23 (R98, R99, R100, R104, R105, R110, R112). A lens transaction is a start condition, the address byte, the
two upper and the eight lower bits of the position, and a stop condition; after a byte that is not
acknowledged the stop condition follows and no further byte, and a clock hold ends it with the release of the
bus. LENS_TRANSACTION_END succeeds where all three bytes are acknowledged and fails otherwise;
LENS_CLOCK_HOLD_TIMEOUT is a failure. Success makes the sent position the lens position; a wanted position
starts as attempt 1 on the present address, and otherwise the link is IDLE, but a coarse search that has just
turned back steps at once in its new direction or, with no room there, enters FINE, wants the first of its
fine list and posts FOCUS_STATE with cause SEARCH (0x10) to all three ports. Attempt 1 failed: attempt 2
carries the wanted or else the failed position. Attempt 2 failed: the link is IDLE, nothing is wanted, FOC is
in FAULT, and FOCUS_STATE with cause LINK (0x11) goes to all three ports. The model's choices: with no
transaction in flight neither command does anything (log 1), and attempt 2 goes to the address attempt 1
started with, also where it carries a newer position (log 21). Presumed: the address byte is the address above
a lowest bit of 0 (log 40). -/
def Obligations.LensTransactionsRetryOnce : Prop :=
  (∀ (m : LensMove) (a b c : Bool), m.pos ≤ 1023 → m.addr ≤ 0x77 →
    ∃ x y z : Byte, x.toNat = 2 * m.addr ∧ y.toNat = m.pos / 256 ∧ z.toNat = m.pos % 256 ∧
      let sent := lensTransaction m [a, b, c]
      (a = false → sent = [.start, .byte x false, .stop]) ∧
      (a = true → b = false → sent = [.start, .byte x true, .byte y false, .stop]) ∧
      (a = true → b = true → sent = [.start, .byte x true, .byte y true, .byte z c, .stop]) ∧
      (lensSucceeds sent = true ↔ a = true ∧ b = true ∧ c = true) ∧
      lensClockHeld m [] = [.start, .release] ∧ lensClockHeld m [true] = [.start, .byte x true, .release] ∧
      lensClockHeld m [true, true] = [.start, .byte x true, .byte y true, .release] ∧
      ∀ acks, lensSucceeds (lensClockHeld m acks) = false) ∧
  ∀ (a b c : Bool) (s : State),
    let ends (ok : Bool) (o : Result) : Prop :=
      (s.foc.link = none → o = .next s) ∧
      ∀ m, s.foc.link = some m →
        let k : Focus := { s.foc with lensPos := m.pos, link := none }
        (ok = true →
          (∀ w, s.foc.wanted = some w → o = .next { s with
            foc := { k with link := some { pos := w, attempt := 1, addr := s.foc.addr }, wanted := none } }) ∧
          (s.foc.wanted = none →
            (∀ r, s.foc.state = .search r → ¬(r.phase = .coarse ∧ r.reversed = true ∧ r.steps = 0)) →
            o = .next { s with foc := k }) ∧
          (∀ r, s.foc.wanted = none → s.foc.state = .search r → r.phase = .coarse → r.reversed = true → r.steps = 0 →
            (if r.up then m.pos < 1023 else 0 < m.pos) →
            o = .next { s with foc := { k with
              owed := false
              state := .search { r with steps := 1, settle := 0 }
              link := some { pos := if r.up then min 1023 (m.pos + 64) else m.pos - 64, attempt := 1, addr := s.foc.addr } } }) ∧
          (∀ r, s.foc.wanted = none → s.foc.state = .search r → r.phase = .coarse → r.reversed = true → r.steps = 0 →
            ¬ (if r.up then m.pos < 1023 else 0 < m.pos) →
            ∃ p l, finePositions r.bestPos = p :: l ∧ o = .next (postAll
              { kind := .focusState
                contents := u8 s.foc.mode.code ++ [1, 1, 1] ++ u16 m.pos ++ [0] ++ u8 s.foc.addr ++ [0x10] }
              { s with foc := { k with
                owed := false
                state := .search { r with
                  phase := .fine, bestMeasure := none, fineList := p :: l, fineIndex := 0, fineMeasures := [], settle := 0 }
                link := some { pos := p, attempt := 1, addr := s.foc.addr } } }))) ∧
        (ok = false → m.attempt = 1 → o = .next { s with foc := { s.foc with
          link := some { pos := s.foc.wanted.getD m.pos, attempt := 2, addr := m.addr }, wanted := none } }) ∧
        (ok = false → m.attempt ≠ 1 → o = .next (postAll
          { kind := .focusState
            contents := u8 s.foc.mode.code ++ [5, 0] ++ u16 s.foc.lensPos ++ [0] ++ u8 s.foc.addr ++ [0x11] }
          { s with foc := { s.foc with link := none, wanted := none, state := .fault } }))
    ends (a && b && c) (exec (.lensTransactionEnd a b c) s) ∧ ends false (exec .lensClockHoldTimeout s)

/-- O24 (R101, R102, R103, R104, R105, R112, R113). A publish that changes the focus state or the search phase
posts FOCUS_STATE with cause SEARCH (0x10) to all three ports, and one that does not posts nothing. With the
reset move owed and FOC not HELD a publish first wants a move to the lens position, which clears the flag, and
then does what it does with no move owed; in PARKED, HELD and FAULT it does nothing more than record the
measure and the motion count. During a search with no reset move owed: while a move is in flight or wanted, at
a motion count of the refocus threshold or more, or during a glide, the search does not change; a window a
quarter off the search width restarts it from the lens position; a settle count below 2 advances. A valid
coarse measure that is the first or greater becomes the best at the lens position. Below 15/16 of the best, or
with no further step in its direction, the search has passed the peak: after one step it reverses once and
moves to the best position, else it enters FINE and moves to the first of its fine list. Otherwise it moves 64
on, clamped to 0 to 1023. Every move clears the settle count. -/
def Obligations.CoarseSearchTakesTheFirstTestThatHolds : Prop :=
  (∀ (measure motion width wake : Nat) (still : Bool) (f : Focus) (r : Search), f.state = .search r → f.owed = false →
    let g := focusOnPublish measure motion width wake still f
    let h : Focus := { f with last := some (measure, motion) }
    let off := 4 * ((width : Int) - (r.width : Int)).natAbs
    (f.link.isSome ∨ f.wanted.isSome → g = h) ∧
    (f.link = none → f.wanted = none →
      (f.threshold ≤ motion ∨ still = false → g = h) ∧
      (motion < f.threshold → still = true →
        (let anew : Search :=
          { phase := .coarse, up := decide (f.lensPos ≤ 768), steps := 0, reversed := false, bestMeasure := none,
            bestPos := f.lensPos, fineList := [], fineIndex := 0, fineMeasures := [], width := width, settle := 0 }
         r.width ≤ off → g = { h with state := .search anew }) ∧
        (off < r.width → r.settle < 2 → g = { h with state := .search { r with settle := r.settle + 1 } }) ∧
        (off < r.width → 2 ≤ r.settle → r.phase = .coarse →
          let best : Search := { r with bestMeasure := some measure, bestPos := f.lensPos }
          let x : Search := match r.bestMeasure with
            | none => best
            | some b => if b < measure then best else r
          let passed : Prop := (∃ b, r.bestMeasure = some b ∧ 16 * measure < 15 * b) ∨
            (if r.up then 1023 ≤ f.lensPos else f.lensPos = 0)
          let moves (p : Nat) (y : Search) : Prop := g = { h with
            link := some { pos := p, attempt := 1, addr := f.addr }, state := .search { y with settle := 0 } }
          (¬ passed → moves (if r.up then min 1023 (f.lensPos + 64) else f.lensPos - 64)
            { x with steps := r.steps + 1 }) ∧
          (passed → r.steps = 1 → r.reversed = false →
            moves x.bestPos { x with up := !r.up, reversed := true, steps := 0 }) ∧
          (passed → (r.steps ≠ 1 ∨ r.reversed = true) → ∃ p l, finePositions x.bestPos = p :: l ∧
            moves p { x with
              phase := .fine, bestMeasure := none, fineList := p :: l, fineIndex := 0, fineMeasures := [] }))))) ∧
  (∀ (measure motion width wake : Nat) (still : Bool) (f : Focus),
    let g := focusOnPublish measure motion width wake still f
    let moved : Focus := { f with
      owed := false
      state := match f.state with
        | .search r => .search { r with settle := 0 }
        | x => x
      link := match f.link with
        | none => some { pos := f.lensPos, attempt := 1, addr := f.addr }
        | some m => some m
      wanted := if f.link = none then f.wanted else some f.lensPos }
    (f.owed = true → f.state ≠ .held → g = focusOnPublish measure motion width wake still moved) ∧
    ((f.state = .held ∨ (f.owed = false ∧ (f.state = .parked ∨ f.state = .fault))) →
      g = { f with last := some (measure, motion) })) ∧
  ∀ (measure motion : Nat) (s : State),
    let t := s.opp.applied.target
    let width := (windowOf 4096 3072 t.1 t.2 s.vwc.live.zc s.vwc.live.qx s.vwc.live.qy).w
    let f := focusOnPublish measure motion width s.liu.wakeThreshold (decide (s.vwc.live.zc = s.vwc.live.zt)) s.foc
    let code (x : FocusState) : Nat := match x with
      | .search r => if r.phase = .coarse then 0 else 1
      | .locked _ => 2
      | .parked => 3
      | .held => 4
      | .fault => 5
    (code f.state = code s.foc.state → focusPublish measure motion s = { s with foc := f }) ∧
    (code f.state ≠ code s.foc.state →
      focusPublish measure motion s = postAll (focusNotice [0x10] f) { s with foc := f })

/-- O25 (R105, R106). The fine list about a position is the positions −24 to +24 in eights clamped to 0 to 1023,
rising, 4 to 7 of them. A valid measure in FINE is recorded and the next position wanted; after the last, FOC
is LOCKED at the position with the greatest measure, the lowest among equals, with the present width and a
clear motion watch, and a move there is wanted unless the lens stands there. In LOCKED a count at the refocus
threshold sets the motion-seen flag, one below the wake threshold advances the quiet count while it is set,
and any other clears the quiet count; a quiet count of 3, or a width a quarter off the lock width after a
glide, starts a new search from the aim position. Where a count is both at the refocus threshold and below the
wake threshold the first of these is taken, the model's choice of log 35. -/
def Obligations.FineSearchLocksTheBestPosition : Prop :=
  (∀ best ≤ 1023, let l := finePositions best
    l.Pairwise (· < ·) ∧ 4 ≤ l.length ∧ l.length ≤ 7 ∧
    ∀ x : Nat, x ∈ l ↔ ∃ k : Int, -3 ≤ k ∧ k ≤ 3 ∧ (x : Int) = max 0 (min 1023 ((best : Int) + 8 * k))) ∧
  (∀ l : List (Nat × Nat), l ≠ [] → l.Pairwise (fun a b => a.1 < b.1) →
    ∃ m, (bestFine l, m) ∈ l ∧ ∀ x ∈ l, x.2 ≤ m ∧ (x.2 = m → bestFine l ≤ x.1)) ∧
  (∀ (measure motion width wake : Nat) (f : Focus) (r : Search), f.state = .search r → f.owed = false →
    f.link = none → f.wanted = none → motion < f.threshold →
    4 * ((width : Int) - (r.width : Int)).natAbs < r.width → 2 ≤ r.settle → r.phase = .fine →
    let g := focusOnPublish measure motion width wake true f
    let h : Focus := { f with last := some (measure, motion) }
    let taken := r.fineMeasures ++ [measure]
    let best := bestFine (r.fineList.zip taken)
    (∀ p, r.fineList[r.fineIndex + 1]? = some p → g = { h with
      link := some { pos := p, attempt := 1, addr := f.addr }
      state := .search { r with fineMeasures := taken, fineIndex := r.fineIndex + 1, settle := 0 } }) ∧
    (r.fineList[r.fineIndex + 1]? = none → g = { h with
      link := if f.lensPos = best then none else some { pos := best, attempt := 1, addr := f.addr }
      state := .locked { pos := best, width := width, motionSeen := false, quiet := 0 } })) ∧
  ∀ (measure motion width wake : Nat) (still : Bool) (f : Focus) (l : Lock), f.state = .locked l → f.owed = false →
    let g := focusOnPublish measure motion width wake still f
    let h : Focus := { f with last := some (measure, motion) }
    let quiet := if motion < f.threshold ∧ motion < wake ∧ l.motionSeen = true then l.quiet + 1 else 0
    let again : Prop :=
      (still = true ∧ l.width ≤ 4 * ((width : Int) - (l.width : Int)).natAbs) ∨ 3 ≤ quiet
    let aim := f.wanted.getD (match f.link with
      | none => f.lensPos
      | some m => m.pos)
    let anew : Search :=
      { phase := .coarse, up := decide (aim ≤ 768), steps := 0, reversed := false, bestMeasure := none, bestPos := aim,
        fineList := [], fineIndex := 0, fineMeasures := [], width := width, settle := 0 }
    let kept : Lock := { l with motionSeen := l.motionSeen || decide (f.threshold ≤ motion), quiet := quiet }
    (again → g = { h with state := .search anew }) ∧ (¬ again → g = { h with state := .locked kept })

/-- O26 (R102, R108, R109, R110, R111, R112, R196). At a port that takes requests. FOCUS_AUTO takes a carried
threshold clamped to 1 to 768, sets mode AUTO and starts a new search from the aim position, and from FAULT
wants a move to the lens position. FOCUS_MANUAL sets mode MANUAL and PARKED and wants a move to the position
clamped to 0 to 1023 unless the aim position equals it. SET_FOCUS_LINK takes an address of 0x08 to 0x77 and
answers BAD_PARAM with no change for any other. Each OK posts FOCUS_STATE with the port as cause to all three
ports. GET_FOCUS answers the fields of R111 and changes nothing else. That each of those fields that may be
absent has a presence byte of its own, in R111's order, is the model's choice of log 16. -/
def Obligations.FocusRequestsSearchParkAndReport : Prop :=
  ∀ (p : PortId) (threshold : Option Half) (position : Half) (address : Byte) (s : State), Serves p s →
    let r := requestTaken p s
    let f := r.foc
    let t := r.opp.applied.target
    let width := (windowOf 4096 3072 t.1 t.2 r.vwc.live.zc r.vwc.live.qx r.vwc.live.qy).w
    let aim := f.wanted.getD (match f.link with
      | none => f.lensPos
      | some m => m.pos)
    let wants (pos : Nat) (g : Focus) : Focus := match f.link with
      | none => { g with owed := false, link := some { pos := pos, attempt := 1, addr := f.addr } }
      | some _ => { g with owed := false, wanted := some pos }
    let done (code : Byte) (data : List Byte) (g : Focus) : Result :=
      .next (answer p .ok code data (postAll (focusNotice (u8 (portNumber p)) g) { r with foc := g }))
    (let th := match threshold with
        | none => f.threshold
        | some x => max 1 (min 768 x.toNat)
     let anew : Search :=
       { phase := .coarse, up := decide (aim ≤ 768), steps := 0, reversed := false, bestMeasure := none,
         bestPos := aim, fineList := [], fineIndex := 0, fineMeasures := [], width := width, settle := 0 }
     let g : Focus := { f with mode := .auto, threshold := th, state := .search anew }
     exec (.focusAuto p threshold) s =
       done 0x30 ([0, 0] ++ u16 th) (if f.state = .fault then wants f.lensPos g else g)) ∧
    (let pos := min 1023 position.toNat
     let g : Focus := { f with mode := .manual, state := .parked }
     exec (.focusManual p position) s = done 0x31 (u16 pos) (if aim = pos then g else wants pos g)) ∧
    (0x08 ≤ address.toNat → address.toNat ≤ 0x77 →
      exec (.setFocusLink p address) s = done 0x32 (u8 address.toNat) { f with addr := address.toNat }) ∧
    ((address.toNat < 0x08 ∨ 0x77 < address.toNat) →
      exec (.setFocusLink p address) s = .next (answer p .badParam 0x32 [] r)) ∧
    ∃ search lock, exec (.getFocus p) s = .next (answer p .ok 0x33
        (u8 f.mode.code ++ u8 f.state.code ++ u16 f.lensPos ++ u16 aim ++
          (match f.link with
            | none => [0, 0, 0]
            | some m => [1, 1] ++ u16 m.pos ++ [1] ++ u8 m.attempt) ++
          (match f.wanted with
            | none => [0]
            | some w => 1 :: u16 w) ++ u8 f.addr ++ u16 f.threshold ++ search ++ lock ++
          (match f.last with
            | none => [0, 0]
            | some (a, b) => 1 :: u32 a ++ 1 :: u16 b)) r) ∧
      ((∀ x, f.state ≠ .search x) → search = [0, 0, 0, 0, 0, 0, 0, 0, 0, 0, 0]) ∧
      ((∀ x, f.state ≠ .locked x) → lock = [0, 0, 0, 0]) ∧
      (∀ x, f.state = .locked x → lock =
        1 :: u16 x.pos ++ 1 :: u16 x.width ++ 1 :: flagByte x.motionSeen ++ 1 :: u8 x.quiet) ∧
      (∀ x, f.state = .search x → x.phase = .coarse → search =
        [1, 0, 1, if x.up then 1 else 255] ++ 1 :: u8 x.steps ++ 1 :: flagByte x.reversed ++
          (match x.bestMeasure with
            | none => [0]
            | some b => 1 :: u32 b) ++ 1 :: u16 x.bestPos ++ 1 :: u8 x.settle ++ 1 :: u16 x.width ++ [0, 0, 0]) ∧
      (∀ x, f.state = .search x → x.phase = .fine → search =
        [1, 1, 1, if x.up then 1 else 255] ++ 1 :: u8 x.steps ++ 1 :: flagByte x.reversed ++
          (match x.bestMeasure with
            | none => [0]
            | some b => 1 :: u32 b) ++ 1 :: u16 x.bestPos ++ 1 :: u8 x.settle ++ 1 :: u16 x.width ++
          1 :: u8 x.fineList.length ++ x.fineList.flatMap u16 ++ 1 :: u8 x.fineIndex ++
          1 :: u8 x.fineMeasures.length ++ x.fineMeasures.flatMap u32)

/-- O27 (R29, R114, R115, R116, R117, R196). LAMP_PERIOD_START latches duty 0 while the part is in DOZE, the lamp-
fault input is active or the latch is set, and the level otherwise, and sets the reseed flag where the duty
changes; under duty D the output of a period of 1,024 counts is high at counts 0 to D−1 and low from D on.
LAMP_FAULT_ACTIVE sets input and latch and posts LAMP_STATE with cause FAULT (0x10) to all ports;
LAMP_FAULT_INACTIVE clears the input alone and posts it with cause INPUT (0x11). At a port that takes requests
SET_LAMP takes the level clamped to 0 to 1023, clears the latch where the input is inactive, answers level,
latch, input and duty, and posts LAMP_STATE with the port as cause to the other two. That both fault commands
are applied and notified whatever the level of the input was before is the model's choice (log 11). -/
def Obligations.LampFollowsLevelFaultAndDoze : Prop :=
  (∀ s : State,
    let d := if s.liu.doze = true ∨ s.inputs.lampFault = true ∨ s.liu.latch = true then 0 else s.liu.level
    exec .lampPeriodStart s = .next { s with
      liu := { s.liu with duty := d }
      sst := { s.sst with reseed := s.sst.reseed || !decide (d = s.liu.duty) } } ∧
    exec .lampFaultActive s = .next (postAll
      { kind := .lampState, contents := u16 s.liu.level ++ [1, 1] ++ u16 s.liu.duty ++ [0x10] }
      { s with inputs := { s.inputs with lampFault := true }, liu := { s.liu with latch := true } }) ∧
    exec .lampFaultInactive s = .next (postAll
      { kind := .lampState, contents := u16 s.liu.level ++ flagByte s.liu.latch ++ [0] ++ u16 s.liu.duty ++ [0x11] }
      { s with inputs := { s.inputs with lampFault := false } })) ∧
  (∀ l : LampIdle, (lampPeriod l).length = 1024 ∧
    ∀ n < 1024, (lampPeriod l)[n]? = some (if n < l.duty then true else false)) ∧
  ∀ (p : PortId) (level : Half) (s : State), Serves p s →
    let r := requestTaken p s
    let v := min 1023 level.toNat
    let latch := r.liu.latch && r.inputs.lampFault
    let data := u16 v ++ flagByte latch ++ flagByte r.inputs.lampFault ++ u16 r.liu.duty
    exec (.setLamp p level) s = .next (answer p .ok 0x38 data
      (postOthers p { kind := .lampState, contents := data ++ u8 (portNumber p) }
        { r with liu := { r.liu with level := v, latch := latch } }))

/-- O28 (R84, R107, R112, R118, R120, R124). MINUTE_INTERVAL_ELAPSED and IDLE_TIMER_EXPIRY do nothing in DOZE or
under the hold. Otherwise the minute interval starts again and the minute count advances by one, up to 240;
where that does not reach a non-zero timeout an IDLE_TIMER_EXPIRY does nothing. Where it does, both enter
DOZE: FOC goes from any state but HELD and FAULT to HELD, drops its wanted position and posts FOCUS_STATE with
cause DOZE (0x12); each pipe in a NORMAL frame blacks out the rest of it; and IDLE_STATE with cause TIMEOUT
(0x10) goes to all three ports. Scan holders, the lamp duty and all else stay. The model's choices: the two
commands share one advance, so that either of them takes it (log 12); an expiry that the state does not admit
does nothing (log 1); the clock goes to the end of the minute, or stays where it is later already (log 4);
FOCUS_STATE is placed before IDLE_STATE (log 36). -/
def Obligations.IdleTimerCountsMinutesAndDozes : Prop :=
  ∀ s : State,
    let e := s.liu.minuteFrom + 60000000
    let a : State := { s with
      now := max s.now e
      liu := { s.liu with minutes := min 240 (s.liu.minutes + 1), minuteFrom := e } }
    let runs : Prop := s.liu.doze = false ∧ s.liu.hold = false
    let ends : Prop := s.liu.timeout ≠ 0 ∧ s.liu.minutes + 1 = s.liu.timeout
    let d : State := { a with liu := { a.liu with doze := true } }
    let g : Focus := { s.foc with state := .held, wanted := none }
    let h : State := if s.foc.state = .held ∨ s.foc.state = .fault then d
      else postAll (focusNotice [0x12] g) { d with foc := g }
    let dark (c : Context) : Context := if c.kind = .normal then { c with blackWhole := true } else c
    let b : State := postAll { kind := .idleState, contents := [1, 0x10] ++ u8 s.liu.timeout ++ [0] }
      { h with opp := { s.opp with ctx := dark s.opp.ctx }, opt := { s.opt with ctx := dark s.opt.ctx } }
    (¬ runs → exec .minuteIntervalElapsed s = .next s ∧ exec .idleTimerExpiry s = .next s) ∧
    (runs → ¬ ends → exec .minuteIntervalElapsed s = .next a ∧ exec .idleTimerExpiry s = .next s) ∧
    (runs → ends → exec .minuteIntervalElapsed s = .next b ∧ exec .idleTimerExpiry s = .next b)

/-- O29 (R107, R119, R121, R123, R124, R196). The first part of a request's taking restarts the idle timer in
ACTIVE. In DOZE it wakes the part: ACTIVE, timer restarted, reseed flag set, FOC out of HELD into a new search
(AUTO) or PARKED (MANUAL) with FOCUS_STATE of cause WAKE (0x13), and IDLE_STATE with the port as cause to all
ports. A motion count at the wake threshold does the same with cause MOTION (0x11) and the count; a lower one
does nothing. FOCUS_STATE is placed before IDLE_STATE, the model's choice of log 31. At a port that takes
requests, WAKE answers LIU's state and does nothing more; SET_IDLE takes the timeout clamped to 240 and a
carried wake threshold clamped to 1 to 768, and answers both. -/
def Obligations.RequestsAndMotionWakeOrRestart : Prop :=
  (∀ s : State,
    let a : State := { s with liu := { s.liu with minutes := 0, minuteFrom := s.now } }
    let w : State := { a with liu := { a.liu with doze := false }, sst := { s.sst with reseed := true } }
    let t := s.opp.applied.target
    let width := (windowOf 4096 3072 t.1 t.2 s.vwc.live.zc s.vwc.live.qx s.vwc.live.qy).w
    let aim := s.foc.wanted.getD (match s.foc.link with
      | none => s.foc.lensPos
      | some m => m.pos)
    let search : Search :=
      { phase := .coarse, up := decide (aim ≤ 768), steps := 0, reversed := false, bestMeasure := none, bestPos := aim,
        fineList := [], fineIndex := 0, fineMeasures := [], width := width, settle := 0 }
    let g : Focus := { s.foc with state := if s.foc.mode = .auto then .search search else .parked }
    let h : State := if s.foc.state = .held then postAll (focusNotice [0x13] g) { w with foc := g } else w
    let woken (rest : List Byte) (cause : List Byte) : State :=
      postAll { kind := .idleState, contents := [0] ++ cause ++ u8 s.liu.timeout ++ rest } h
    (∀ p : PortId, (s.liu.doze = false → requestTaken p s = a) ∧
      (s.liu.doze = true → requestTaken p s = woken [0] (u8 (portNumber p)))) ∧
    ∀ motion : Nat, (motion < s.liu.wakeThreshold → motionDelivered motion s = s) ∧
      (s.liu.wakeThreshold ≤ motion → s.liu.doze = false → motionDelivered motion s = a) ∧
      (s.liu.wakeThreshold ≤ motion → s.liu.doze = true → motionDelivered motion s = woken (1 :: u16 motion) [0x11])) ∧
  ∀ (p : PortId) (timeout : Half) (wake : Option Half) (s : State), Serves p s →
    let r := requestTaken p s
    let l := r.liu
    exec (.wake p) s = .next (answer p .ok 0x05
      (flagByte l.doze ++ u8 l.timeout ++ u16 l.wakeThreshold ++ u8 l.minutes ++ flagByte l.hold ++ u16 l.level ++
        u16 l.duty ++ flagByte l.latch ++ flagByte r.inputs.lampFault) r) ∧
    l.doze = false ∧ l.minutes = 0 ∧
    (let m := min 240 timeout.toNat
     let k := match wake with
        | none => l.wakeThreshold
        | some x => max 1 (min 768 x.toNat)
     exec (.setIdle p timeout wake) s = .next (answer p .ok 0x39 (u8 m ++ u16 k)
       { r with liu := { l with timeout := m, wakeThreshold := k } }))

/-- O30 (R127, R128, R196). At a port that takes requests. In MOUNTING and MOUNTED SET_STORE_PROFILE is answered
BUSY. In UNMOUNTED it is answered BAD_PARAM, with no change, where an entry names an unknown kind, a lane
count other than 1, 2 or 4 or an address-byte count its kind does not accept, where the polarity is neither 0
nor 1, or where two entries name one kind. Otherwise every carried field is taken, clamped to its range, every
other keeps its value, and the answer is OK with the whole profile, which GET_STORE_PROFILE answers in every
store state without a change. The model's choice (log 16): the whole profile is the divider, the six fields of
each command kind in R127's order with no kind byte and no count byte, and then the other fields. -/
def Obligations.StoreProfileRequestsCheckThenTake : Prop :=
  ∀ (p : PortId) (fields : ProfileFields) (entries : List ProfileEntry) (s : State), Serves p s →
    (Instr.setStoreProfile p fields entries).wellFormed = true →
    let r := requestTaken p s
    let entry (e : CommandEntry) : List Byte := [e.code] ++ u8 e.commandLanes ++ u8 e.addressLanes ++ u8 e.dataLanes ++
      u8 e.addressBytes ++ u8 e.dummyCycles
    let bytes (f : Profile) : List Byte := u8 f.divider ++ entry f.read ++ entry f.program ++ entry f.writeEnable ++
      entry f.status ++ entry f.sectorErase ++ entry f.blockErase ++ entry f.idRead ++ u8 f.busyBit ++ u8 f.busyPolarity ++
      u16 f.pollInterval ++ u8 f.programTimeout ++ u16 f.sectorTimeout ++ u16 f.blockTimeout
    let lane (x : Option Byte) : Prop := ∀ b, x = some b → b = 1 ∨ b = 2 ∨ b = 4
    let fits (e : ProfileEntry) : Prop := e.kind.toNat ≤ 6 ∧ lane e.commandLanes ∧ lane e.addressLanes ∧
      lane e.dataLanes ∧ ∀ b, e.addressBytes = some b →
        if e.kind = 2 ∨ e.kind = 3 then b = 0 else if e.kind = 6 then b = 0 ∨ b = 3 else b = 4
    let good : Prop := (∀ e ∈ entries, fits e) ∧ (∀ b, fields.busyPolarity = some b → b = 0 ∨ b = 1) ∧
      (entries.map ProfileEntry.kind).Nodup
    let taken {n : Nat} (lo hi old : Nat) (x : Option (BitVec n)) : Nat := match x with
      | none => old
      | some b => max lo (min hi b.toNat)
    let raw (old : Nat) (x : Option Byte) : Nat := match x with
      | none => old
      | some b => b.toNat
    (r.cat.store ≠ .unmounted →
      exec (.setStoreProfile p fields entries) s = .next (answer p .busy 0x40 [] r)) ∧
    (r.cat.store = .unmounted → ¬ good →
      exec (.setStoreProfile p fields entries) s = .next (answer p .badParam 0x40 [] r)) ∧
    (r.cat.store = .unmounted → good → ∃ f : Profile,
      exec (.setStoreProfile p fields entries) s =
        .next (answer p .ok 0x40 (bytes f) { r with ssq := { r.ssq with profile := f } }) ∧
      f.divider = taken 2 64 r.ssq.profile.divider fields.divider ∧
      f.busyBit = taken 0 7 r.ssq.profile.busyBit fields.busyBit ∧
      f.busyPolarity = raw r.ssq.profile.busyPolarity fields.busyPolarity ∧
      f.pollInterval = taken 20 1000 r.ssq.profile.pollInterval fields.pollInterval ∧
      f.programTimeout = taken 1 50 r.ssq.profile.programTimeout fields.programTimeout ∧
      f.sectorTimeout = taken 50 2000 r.ssq.profile.sectorTimeout fields.sectorTimeout ∧
      f.blockTimeout = taken 200 10000 r.ssq.profile.blockTimeout fields.blockTimeout ∧
      ∀ k : CommandKind, let old := r.ssq.profile.entry k
        ((∀ e ∈ entries, e.kind.toNat ≠ k.position) → f.entry k = old) ∧
        ∀ e ∈ entries, e.kind.toNat = k.position → f.entry k =
          { code := e.code.getD old.code, commandLanes := raw old.commandLanes e.commandLanes,
            addressLanes := raw old.addressLanes e.addressLanes, dataLanes := raw old.dataLanes e.dataLanes,
            addressBytes := raw old.addressBytes e.addressBytes,
            dummyCycles := taken 0 15 old.dummyCycles e.dummyCycles }) ∧
    exec (.getStoreProfile p) s = .next (answer p .ok 0x41 (bytes r.ssq.profile) r)

/-- O31 (R131, R133, R134, R135, R136, R137, R138, R139, R151, R153, R187). POLL_DUE puts a status poll of a BUSY
device among what is due, unless it has no poll time or a poll is under way, and with it that of the other
device where that falls due at the same moment. STATUS_POLL_END frees the bus. For a BUSY device: not busy and
not late, it is READY and its client learns DONE; not busy and late, an ID recheck is due; busy before the
deadline or the late deadline, it is polled again after the interval; busy at the deadline, it is FAULTED
(CARRY_OVER, unfinished) where carried over, else the client learns TIMEOUT, the late deadline is set and
STORE_FAULT TIMEOUT goes to all; busy at the late deadline, it is FAULTED (TIMEOUT_NO_FINISH, unfinished). For
a probe of the mount scanner: not busy, the unfinished flag is cleared and the probe is presented again; busy,
the device stays as it is and the mount goes on to D1's probe, to area 0, or fails with NO_STORE. Results then
reach their clients, the ports take what they may, and the bus is given out; with no request waiting nothing
is taken. The model's choices: a status byte with no poll on the bus, and a POLL_DUE of a device with no poll
time or a poll under way, change nothing of their own (log 1); the clock goes to the moment, or stays where it
is later (log 4); both polls of one moment fall due together, D0's first (log 20); the results come first,
then the ports' next requests, CP0's, CP1's, CP2's, then one grant of the bus (log 20); STORE_FAULT follows
the notices of the client that learns TIMEOUT (log 18); the presence bytes of STORE_FAULT and STORE_STATE (log
16); the byte is read under the profile as it stands (log 37). What FAULTED brings is spelled in
BusEndsReachDeviceAndClient. -/
def Obligations.StatusPollsDecideByTheByte : Prop :=
  (∀ (d : DevId) (s : State),
    let underWay (d : DevId) : Prop :=
      (∃ o ∈ s.ssq.due, o.dev = d) ∨ ∃ x, s.ssq.bus = some x ∧ x.user = .poll ∧ x.dev = d
    (∀ b t, (s.device d).state = .busy b → b.nextPoll = some t → ¬ underWay d →
      let e : DevId := if d = .d0 then .d1 else .d0
      let both : Prop := (∃ c, (s.device e).state = .busy c ∧ c.nextPoll = some t) ∧ ¬ underWay e
      let fallen (l : List DevId) : State := { s with
        now := max s.now t
        ssq := { s.ssq with due := s.ssq.due ++ l.map fun g => { dev := g, recheck := false } } }
      (both → exec (.pollDue d) s = .next (close (fallen [.d0, .d1]))) ∧
      (¬ both → exec (.pollDue d) s = .next (close (fallen [d])))) ∧
    (((∀ b, (s.device d).state = .busy b → b.nextPoll = none) ∨ underWay d) →
      exec (.pollDue d) s = .next (close s))) ∧
  ∀ (moment : Nat) (status : Byte) (s : State),
    ((∀ x, s.ssq.bus = some x → x.kind ≠ .statusPoll) → exec (.statusPollEnd moment status) s = .next s) ∧
    ∀ x : Running, s.ssq.bus = some x → x.kind = .statusPoll →
      let f := s.ssq.profile
      let u : State := { s with now := max s.now moment, ssq := { s.ssq with bus := none } }
      let now := max s.now moment
      let busy : Prop := status.toNat / 2 ^ f.busyBit % 2 = f.busyPolarity
      let sets (y : DeviceState) : State := u.setDevice x.dev { s.device x.dev with state := y }
      let ends (v : State) : Prop :=
        exec (.statusPollEnd moment status) s = andThen (settle (drainAll v)) (fun t => .next (close t)) ∧
        (Quiet s → exec (.statusPollEnd moment status) s = .next (close (drainAll v)))
      (∀ b : BusyRecord, x.user = .poll → (s.device x.dev).state = .busy b →
        let tells (y : DeviceState) (r : OpResult) : State := match b.client with
          | none => sets y
          | some c => { sets y with ssq := { (sets y).ssq with results := s.ssq.results ++ [(c, r)] } }
        let again : BusyRecord := { b with nextPoll := some (now + f.pollInterval) }
        (¬ busy → b.late = none → ends (tells .ready (.done []))) ∧
        (busy → b.late = none → now < b.deadline → ends (sets (.busy again))) ∧
        (busy → b.late = none → b.deadline ≤ now → b.kind = .carried → ends (becomeFaulted x.dev .carryOver true u)) ∧
        (busy → b.late = none → b.deadline ≤ now → b.kind ≠ .carried →
          let late : BusyRecord := { again with client := none, late := some (now + f.blockTimeout * 1000) }
          let v := drainAll (tells (.busy late) .timeout)
          ends (postAll
            { kind := .storeFault
              contents := u8 (devNumber x.dev) ++ [0x10, 1] ++ u8 b.kind.code ++ [1] ++ u32 b.addr ++
                u8 (v.device x.dev).state.code } v)) ∧
        (¬ busy → b.late ≠ none →
          let v := sets (.busy { b with late := none, nextPoll := none, recheck := true })
          ends { v with ssq := { v.ssq with due := s.ssq.due ++ [{ dev := x.dev, recheck := true }] } }) ∧
        (∀ l, busy → b.late = some l → now < l → ends (sets (.busy again))) ∧
        (∀ l, busy → b.late = some l → l ≤ now → ends (becomeFaulted x.dev .timeoutNoFinish true u))) ∧
      (x.user = .client .mount →
        let probe (d : DevId) : BusOp := { dev := d, kind := .probe, addr := 0 }
        let stage (m : MountStage) (c : Catalogue) : Catalogue :=
          { c with mount := c.mount.map fun y => { y with stage := m } }
        let here := decide ((s.device x.dev).state = .ready)
        (∀ c w, ¬ busy → (s.device x.dev).state = .faulted c w →
          ends (present .mount (probe x.dev) (sets (.faulted c false)))) ∧
        (busy → x.dev = .d0 → ends (present .mount (probe .d1)
          { u with cat := stage (.probe .d1) { s.cat with present0 := here } })) ∧
        (busy → x.dev = .d1 → s.cat.present0 = true → ends (present .mount { dev := .d0, kind := .read 256, addr := 0 }
          { u with cat := stage (.area 0) { s.cat with present1 := here } })) ∧
        (busy → x.dev = .d1 → s.cat.present0 = false →
          ends (postAll { kind := .storeState, contents := [0, 2, 0, 0, 0, 0, 0] }
            { u with cat := { Catalogue.reset with lastMount := .noStore } })))

/-- O32 (R126, R132, R134, R135, R137, R138, R139, R151, R153, R181, R187, R196). An operation presented for an
ABSENT or FAULTED device, a probe apart, fails with DEVICE_FAULT at once; any other waits. A device that
becomes FAULTED has its record so, every operation waiting for it, probes apart, fails with DEVICE_FAULT, the
recall that waits for it fails (`failRecallFor`, RecallReadsPublishesOrFails), an allocation that waits goes
on, and STORE_FAULT with the device, the cause and the device state goes to all three ports.
PROGRAM_ERASE_BUS_END frees the bus and makes its device BUSY with the deadline and poll time of R132 and the
client that waits. READ_END with the bytes asked for frees the bus and gives them to the client that still
wants them. ID_RECHECK_END makes the device READY where the three bytes equal the reference ID and FAULTED
(ID_CHANGED) where not. PROBE_ID_READ_END records the ID, READY or, for three 0xFF or three 0x00, ABSENT;
after D0 the probe of D1 follows, after D1 the read of area 0 where D0 is present, and else the mount fails
with NO_STORE. Results then reach their clients, the ports take what they may, and the bus is given out; with
no request waiting nothing is taken. The model's choices: with no operation of its kind on the bus each
command changes nothing (log 1), and so does a count of bytes that was not asked for (log 5); the clock goes
to the moment, or stays where it is later (log 4); the results come first, then the ports' next requests,
CP0's, CP1's, CP2's, then one grant of the bus (log 20); the clients that learn DEVICE_FAULT do so in the
order they presented, and STORE_FAULT follows their notices (log 18); the presence bytes of STORE_FAULT and
STORE_STATE (log 16). -/
def Obligations.BusEndsReachDeviceAndClient : Prop :=
  ((∀ (c : Client) (op : BusOp) (s : State),
    let x := (s.device op.dev).state
    let fails : Prop := op.kind ≠ .probe ∧ (x = .absent ∨ ∃ cause unfinished, x = .faulted cause unfinished)
    (fails → present c op s = { s with ssq := { s.ssq with results := s.ssq.results ++ [(c, .deviceFault)] } }) ∧
    (¬ fails → present c op s =
      { s with ssq := { s.ssq with waiting := s.ssq.waiting ++ [{ client := c, op := op }] } })) ∧
  ∀ (d : DevId) (cause : FaultCause) (unfinished : Bool) (s : State),
    let hit (w : WaitingOp) : Bool := decide (w.op.dev = d ∧ w.op.kind ≠ .probe)
    let v : State := s.setDevice d { s.device d with state := .faulted cause unfinished }
    let a := failRecallFor d (drainAll { v with ssq := { v.ssq with
      waiting := s.ssq.waiting.filter fun w => !hit w
      results := s.ssq.results ++ (s.ssq.waiting.filter hit).map fun w => (w.client, .deviceFault) } })
    let b := match a.cat.alloc with
      | .waiting => serve serveFuel (allocate a)
      | _ => a
    let why : Byte := match cause with
      | .timeoutNoFinish => 0x11
      | .idChanged => 0x12
      | .carryOver => 0x13
    becomeFaulted d cause unfinished s = postAll
      { kind := .storeFault, contents := u8 (devNumber d) ++ [why, 0, 0] ++ u8 (b.device d).state.code } b) ∧
  ∀ (moment : Nat) (bytes : List Byte) (i0 i1 i2 : Byte) (s : State),
    ((∀ x, s.ssq.bus = some x → x.kind ≠ .program ∧ x.kind ≠ .sectorErase ∧ x.kind ≠ .blockErase) →
      exec (.programEraseBusEnd moment) s = .next s) ∧
    ((∀ x, s.ssq.bus = some x → x.kind ≠ .read bytes.length) → exec (.readEnd bytes) s = .next s) ∧
    ((∀ x, s.ssq.bus = some x → x.user ≠ .recheck) → exec (.idRecheckEnd i0 i1 i2) s = .next s) ∧
    ((∀ x, s.ssq.bus = some x → x.user ≠ .client .mount ∨ x.kind ≠ .idRead) →
      exec (.probeIdReadEnd i0 i1 i2) s = .next s) ∧
    ∀ x : Running, s.ssq.bus = some x →
      let u : State := { s with ssq := { s.ssq with bus := none } }
      let now := max s.now moment
      let d := s.device x.dev
      let ends (o : Result) (v : State) : Prop :=
        o = andThen (settle (drainAll v)) (fun t => .next (close t)) ∧ (Quiet s → o = .next (close (drainAll v)))
      let enters (k : Outstanding) (ms : Nat) : Prop :=
        let b : BusyRecord :=
          { kind := k, client := (match x.user with
              | .client c => if x.wanted then some c else none
              | _ => none),
            addr := x.addr, start := now, deadline := now + ms * 1000, late := none,
            nextPoll := some (now + s.ssq.profile.pollInterval), recheck := false }
        ends (exec (.programEraseBusEnd moment) s) { u.setDevice x.dev { d with state := .busy b } with now := now }
      (x.kind = .program → enters .program s.ssq.profile.programTimeout) ∧
      (x.kind = .sectorErase → enters .sectorErase s.ssq.profile.sectorTimeout) ∧
      (x.kind = .blockErase → enters .blockErase s.ssq.profile.blockTimeout) ∧
      (∀ c, x.kind = .read bytes.length → x.user = .client c → ends (exec (.readEnd bytes) s)
        (if x.wanted then { u with ssq := { u.ssq with results := s.ssq.results ++ [(c, .done bytes)] } } else u)) ∧
      (x.user = .recheck →
        (d.refId = some (i0, i1, i2) → ends (exec (.idRecheckEnd i0 i1 i2) s) (u.setDevice x.dev { d with state := .ready })) ∧
        (d.refId ≠ some (i0, i1, i2) → ends (exec (.idRecheckEnd i0 i1 i2) s) (becomeFaulted x.dev .idChanged false u))) ∧
      (x.user = .client .mount → x.kind = .idRead →
        let gone : Prop := (i0, i1, i2) = (0xFF, 0xFF, 0xFF) ∨ (i0, i1, i2) = (0, 0, 0)
        let v := u.setDevice x.dev
          (if gone then { state := .absent, refId := none } else { state := .ready, refId := some (i0, i1, i2) })
        let stage (m : MountStage) (c : Catalogue) : Catalogue :=
          { c with mount := c.mount.map fun y => { y with stage := m } }
        let probed := exec (.probeIdReadEnd i0 i1 i2) s
        let here := decide (¬ gone)
        (x.dev = .d0 → ends probed (present .mount { dev := .d1, kind := .probe, addr := 0 }
          { v with cat := stage (.probe .d1) { s.cat with present0 := here } })) ∧
        (x.dev = .d1 → s.cat.present0 = true → ends probed (present .mount { dev := .d0, kind := .read 256, addr := 0 }
          { v with cat := stage (.area 0) { s.cat with present1 := here } })) ∧
        (x.dev = .d1 → s.cat.present0 = false →
          ends probed (postAll { kind := .storeState, contents := [0, 2, 0, 0, 0, 0, 0] }
            { v with cat := { Catalogue.reset with lastMount := .noStore } })))

/-- O33 (R127, R129, R130, R137, R139, R140, R141, R146, R159). An occupied bus is left alone. An idle bus goes to
the operation that fell due first, a status poll or an ID recheck. With none due it goes to an eligible
waiting operation of the lowest rank: mount scanner, catalogue writer, recall reader, the direct readers from
the port after the one granted last, save writer, blank checker, reclaimer; where none is eligible nothing
changes. An operation is eligible where its device is READY, or not BUSY for a probe, and an erase of the
reclaimer only where no read of a recall or direct reader waits for its device and no block of a recall still
to be read lies on it. What runs is the operation the client presented, a probe as an ID read or, of a FAULTED
device with the unfinished flag set, as a status poll; the granted client has nothing waiting any more. A
program of the catalogue writer marks its task as granted, and a block erase of the reclaimer makes its block
ERASING. What is sent, under a profile within its ranges (SettingsSound): a program or erase is WRITE_ENABLE
and then its own command with the four address bytes and, for a program, its bytes; a read its command with
the address; a poll STATUS; an ID read ID_READ with no address bytes or three of 0x00; each with the code,
dummy cycles and lane counts of its kind. That a kind with no data phase goes on one lane is deduced (log 39). -/
def Obligations.ArbiterGrantsByRank : Prop :=
  (∀ (f : Profile) (addr : Nat) (bytes : List Byte), ProfileSound f →
    let sent (e : CommandEntry) (address send : List Byte) (receive : Nat) : SentCommand :=
      { code := e.code, address := address, dummyCycles := e.dummyCycles, send := send, receive := receive,
        commandLanes := e.commandLanes, addressLanes := e.addressLanes, dataLanes := e.dataLanes }
    let alone (e : CommandEntry) (address : List Byte) : SentCommand :=
      { code := e.code, address := address, dummyCycles := e.dummyCycles, send := [], receive := 0,
        commandLanes := 1, addressLanes := 1, dataLanes := 1 }
    let enable := alone f.writeEnable []
    commandsOf f .statusPoll addr bytes = [sent f.status [] [] 1] ∧
    commandsOf f .idRead addr bytes = [sent f.idRead (if f.idRead.addressBytes = 3 then [0, 0, 0] else []) [] 3] ∧
    (∀ n, commandsOf f (.read n) addr bytes = [sent f.read (u32 addr) [] n]) ∧
    commandsOf f .program addr bytes = [enable, sent f.program (u32 addr) bytes 0] ∧
    commandsOf f .sectorErase addr bytes = [enable, alone f.sectorErase (u32 addr)] ∧
    commandsOf f .blockErase addr bytes = [enable, alone f.blockErase (u32 addr)]) ∧
  ∀ s : State,
    let ready (w : WaitingOp) : Prop := (s.device w.op.dev).state = .ready ∨
      (w.op.kind = .probe ∧ ∀ b, (s.device w.op.dev).state ≠ .busy b)
    let reads (w : WaitingOp) : Prop := (∃ n, w.op.kind = .read n) ∧ (w.client = .recallReader ∨ ∃ p, w.client = .direct p)
    let gated (d : DevId) : Prop := (∃ w ∈ s.ssq.waiting, reads w ∧ w.op.dev = d) ∨
      ∃ r, s.sre.recalling = some r ∧ ∃ g ∈ r.blocks.drop (r.next / 16), (if g < 4096 then DevId.d0 else .d1) = d
    let able (w : WaitingOp) : Prop := w ∈ s.ssq.waiting ∧ ready w ∧ (w.client = .reclaim → ¬ gated w.op.dev)
    let rank (c : Client) : Nat := match c with
      | .mount => 1
      | .writer => 2
      | .recallReader => 3
      | .direct p => 4 + (portNumber p + 2 - portNumber s.ssq.lastDirect) % 3
      | .save => 7
      | .blank => 8
      | .reclaim => 9
    let runs (w : WaitingOp) : RunKind := match w.op.kind with
      | .probe => (match (s.device w.op.dev).state with
        | .faulted _ true => .statusPoll
        | _ => .idRead)
      | .read n => .read n
      | .program _ => .program
      | .sectorErase => .sectorErase
      | .blockErase => .blockErase
    let t := arbitrate s
    (s.ssq.bus ≠ none → t = s) ∧
    (s.ssq.bus = none →
      (∀ o rest, s.ssq.due = o :: rest →
        let k : RunKind := if o.recheck then .idRead else .statusPoll
        let user : BusUser := if o.recheck then .recheck else .poll
        let x : Running :=
          { user := user, dev := o.dev, kind := k, addr := 0, sent := commandsOf s.ssq.profile k 0 [], wanted := true }
        t = { s with ssq := { s.ssq with due := rest, bus := some x } }) ∧
      (s.ssq.due = [] → (∀ w, ¬ able w) → t = s) ∧
      (s.ssq.due = [] → ∀ w', able w' → ∃ w x, able w ∧ rank w.client ≤ rank w'.client ∧ t.ssq.bus = some x ∧
        x.user = .client w.client ∧ x.kind = runs w ∧ x.dev = w.op.dev ∧ x.addr = w.op.addr ∧ x.wanted = true ∧
        x.sent = commandsOf s.ssq.profile x.kind x.addr w.op.kind.bytes ∧
        t.ssq.waiting = s.ssq.waiting.filter (fun y => !decide (y.client = w.client)) ∧
        t = { s with cat := t.cat, ssq := { s.ssq with
          bus := some x, waiting := t.ssq.waiting, lastDirect := t.ssq.lastDirect } } ∧
        ((∀ p, w.client ≠ .direct p) → t.ssq.lastDirect = s.ssq.lastDirect) ∧
        (∀ y rest b, w.client = .writer → w.op.kind = .program b → s.cat.tasks = y :: rest →
          t.cat = { s.cat with tasks := { y with granted := true } :: rest }) ∧
        (¬ (w.client = .writer ∧ ∃ b, w.op.kind = .program b) → ¬ (w.client = .reclaim ∧ w.op.kind = .blockErase) →
          t.cat = s.cat) ∧
        (∀ p, w.client = .direct p → t.ssq.lastDirect = p) ∧
        (∀ g, w.client = .reclaim → w.op = { dev := blockDevice g, kind := .blockErase, addr := g % 4096 * 65536 } →
          g < 8192 → t.block g = some .erasing ∧
            t.cat = { s.cat with blocks := s.cat.blocks.setIfInBounds g (some .erasing) })))

/-- O34 (R131, R132, R133, R134, R139). BusSound says of a state: where an operation is on the bus for a device
whose last program or erase has not been seen to finish, it is a status poll of rank 0 or, once the device has
been seen not busy after a timeout and until the recheck has ended (recheck pending), the ID recheck; a poll
or recheck runs, or is due, for a BUSY device alone, as its recheck pending says; a device has one under way
at most, and no next poll time while its recheck is pending. Every step from a state with this property, over
every command and with every request that the command lets a port take, gives a state with it. -/
def Obligations.BusyDeviceSeesPollsOnly : Prop :=
  ∀ s t : State, BusSound s → Steps s t → BusSound t

/-- O35 (R126, R144, R146, R147, R151, R175, R196). Programming sets each byte to the AND of old and new, so on a
256-byte area the commit program changes byte 254 to 0x00 and the retire program byte 255, and each leaves
every other byte. From an erased area, which reads EMPTY: body and commit of a lesson with a printable name of
1 to 24 characters read back LIVE with that name and lock, and of a page with fields in range and a list of
distinct image blocks on present devices read back STORED with every field as written. A body without a
commit, and a record retired after its commit, read WIPED for a lesson, and RETIRED for a page. That the
RETIRED page keeps its block list, an uncommitted one too, is the model's choice of log 19: R151 keeps it "as
far as the body gives one". -/
def Obligations.RecordsReadBackAsWritten : Prop :=
  (∀ old : List Byte, old.length = 256 →
    (programmedBytes old commitProgram).length = 256 ∧ (programmedBytes old retireProgram).length = 256 ∧
    ∀ i < 256, (programmedBytes old commitProgram)[i]? = (if i = 254 then some 0 else old[i]?) ∧
      (programmedBytes old retireProgram)[i]? = (if i = 255 then some 0 else old[i]?)) ∧
  ∀ blank : List Byte, blank.length = 256 → (∀ b ∈ blank, b = 0xFF) →
    (∀ (n : Nat) (name : List Byte) (lock : Bool), n < 64 → 1 ≤ name.length → name.length ≤ 24 →
      (∀ b ∈ name, 0x20 ≤ b.toNat ∧ b.toNat ≤ 0x7E) →
      let body := programmedBytes blank (bodyProgram (lessonBody n { name := name, lock := lock }))
      let committed := programmedBytes body commitProgram
      readLesson n blank = {} ∧ readLesson n body = { state := .wiped } ∧
      readLesson n committed = { state := .live, name := name, lock := lock } ∧
      readLesson n (programmedBytes committed retireProgram) = { state := .wiped }) ∧
    ∀ (c : Catalogue) (n : Nat) (g : Page), n < 1024 → g.lesson ≤ 63 → 1 ≤ g.seq → g.seq ≤ 999 →
      g.saveSeq < 4294967296 → g.blocks.length = g.mode.blockCount → g.blocks.Nodup →
      (∀ b ∈ g.blocks, if b < 4096 then c.present0 = true ∧ 68 ≤ b else c.present1 = true ∧ b < 8192) →
      let body := programmedBytes blank (bodyProgram (pageBody n g))
      let committed := programmedBytes body commitProgram
      let retired : Page := { g with state := .retired, pins := 0, mark := .done }
      readPage c n blank = {} ∧ readPage c n body = retired ∧
      readPage c n committed = { g with state := .stored, pins := 0, mark := .none } ∧
      readPage c n (programmedBytes committed retireProgram) = retired

/-- O36 (R137, R138, R150, R154, R166, R167, R196). At a port that takes requests. MOUNT in UNMOUNTED makes the
store MOUNTING with the port as requester, presents the probe of D0, is answered ACCEPTED and posts
STORE_STATE MOUNTING to the other two ports; in MOUNTING it is answered BUSY, in MOUNTED ALREADY. UNMOUNT is
answered NOT_MOUNTED or NOT_READY outside MOUNTED, BUSY while a job, a recall, a direct read, a task or a
REWRITING lesson exists; else the tables are cleared, every port loses its current lesson, the reclaimer's and
blank checker's operations are withdrawn, and STORE_STATE UNMOUNTED goes to the other two. STORE_STATUS
answers the fields of R166 in every store state and changes nothing else. The model's choices: the block,
lesson and page counts are present only in MOUNTED (log 30); each of these counts, the faulted cause, the
reference ID and the item of the reclaimer has one presence byte, and the item's layout (log 16). -/
def Obligations.StoreStateRequestsMountUnmountReport : Prop :=
  ∀ (p : PortId) (s : State), Serves p s →
    let r := requestTaken p s
    let c := r.cat
    let told (code : Nat) (t : State) : State := postOthers p
      { kind := .storeState, contents := u8 code ++ u8 c.lastMount.code ++ [0, 0, 0, 0, 0] } t
    (c.store = .unmounted →
      exec (.mount p) s = .next (close (answer p .accepted 0x48 [] (told 1 { r with
        cat := { c with store := .mounting, mount := some { stage := .probe .d0, requester := some p } }
        ssq := { r.ssq with waiting := r.ssq.waiting ++
          [{ client := .mount, op := { dev := .d0, kind := .probe, addr := 0 } }] } }))) ∧
      exec (.unmount p) s = .next (answer p .notMounted 0x49 [] r)) ∧
    (c.store = .mounting → exec (.mount p) s = .next (close (answer p .busy 0x48 [] r)) ∧
      exec (.unmount p) s = .next (answer p .notReady 0x49 [] r)) ∧
    (c.store = .mounted → exec (.mount p) s = .next (close (answer p .already 0x48 [] r)) ∧
      let used : Prop := r.sre.jobs ≠ [] ∨ r.sre.recalling ≠ none ∨ (∃ q, (r.port q).direct ≠ none) ∨ c.tasks ≠ [] ∨
        ∃ n < 64, (r.lesson n).state = .rewriting
      (used → exec (.unmount p) s = .next (answer p .busy 0x49 [] r)) ∧
      (¬ used → exec (.unmount p) s = .next (told 0 (answer p .ok 0x49 [] (withdraw .blank (withdraw .reclaim
        { r with
          cat := { Catalogue.reset with lastMount := c.lastMount, mount := c.mount }
          cp0 := { r.cp0 with lesson := none }
          cp1 := { r.cp1 with lesson := none }
          cp2 := { r.cp2 with lesson := none } })))))) ∧
    let only (b : Bool) (f : Nat → List Byte) (n : Nat) : List Byte := if b then 1 :: f n else [0]
    let maybe (f : Nat → List Byte) (x : Option Nat) : List Byte := match x with
      | none => [0]
      | some v => 1 :: f v
    let up := decide (c.store = .mounted)
    let dev (d : Device) : List Byte := u8 d.state.code ++
      (match d.state with
        | .faulted cause _ => [1, BitVec.ofNat 8 (0x10 + cause.position)]
        | _ => [0]) ++
      (match d.refId with
        | none => [0]
        | some (a, b, e) => [1, a, b, e])
    let blocks (x : BlockState) : List Byte := only up u16 ((List.range 8192).countP fun g => decide (r.block g = some x))
    let lessons (x : LessonState) : List Byte := only up u8 ((List.range 64).countP fun n => decide ((r.lesson n).state = x))
    let pages (x : PageState) : List Byte := only up u16 ((List.range 1024).countP fun n => decide ((r.page n).state = x))
    let job (j : Job) : List Byte :=
      let w := decide (j.state = .writing ∨ j.state = .committing)
      u8 j.state.code ++ u8 (portNumber j.requester) ++ u16 j.page ++ u8 j.lesson ++ u8 j.mode.code ++
        only w u8 j.done ++ u8 j.mode.blockCount ++ only w u8 j.relocations
    exec (.storeStatus p) s = .next (answer p .ok 0x4A
      (u8 c.store.code ++ u8 c.lastMount.code ++ dev r.ssq.d0 ++ dev r.ssq.d1 ++
        (blocks .free ++ blocks .unknown ++ blocks .used ++ blocks .dirty ++ blocks .erasing ++ blocks .bad) ++
        maybe u16 c.reserved ++ maybe u16 c.cursor ++ maybe u32 c.saveSeq ++
        (lessons .empty ++ lessons .live ++ lessons .rewriting ++ lessons .wiped) ++
        (pages .empty ++ pages .writing ++ pages .stored ++ pages .retiring ++ pages .retired ++ pages .bad) ++
        u16 c.tasks.length ++
        (match c.reclaim with
          | none => [0]
          | some (.sector n) => [1, 0] ++ u16 n
          | some (.block g) => [1, 1] ++ u16 g) ++ u8 r.sre.jobs.length ++ r.sre.jobs.flatMap job) r)

/-- O37 (R145, R146, R150, R160, R161, R162, R196). At a port that takes requests, outside MOUNTED each is
answered NOT_MOUNTED or NOT_READY. NEW_LESSON refuses an empty or unprintable name with BAD_PARAM and a full
table with CATALOGUE_FULL; else the lowest EMPTY lesson is REWRITING under the first 24 characters, its create
task stands last on the task list, begun at once where it is the only one, and the answer is ACCEPTED with
number and name. SELECT_LESSON makes a LIVE lesson, or none for 0xFF, the port's own and answers BUSY for a
REWRITING one and NO_SUCH_LESSON for any other. SET_LESSON_LOCK answers the same of those, OK for an unchanged
flag, and else ACCEPTED with the lesson REWRITING and its rewrite task. That NEW_LESSON's name is checked
before the table is deduced (log 48). -/
def Obligations.LessonRequestsCreateSelectAndLock : Prop :=
  ∀ (p : PortId) (name : List Byte) (lesson lock : Byte) (s : State), Serves p s → name.length ≤ 62 →
    let r := requestTaken p s
    let n := lesson.toNat
    let x := r.lesson n
    let gate (st : Status) : Prop := exec (.newLesson p name) s = .next (close (answer p st 0x4B [] r)) ∧
      exec (.selectLesson p lesson) s = .next (answer p st 0x4C [] r) ∧
      exec (.setLessonLock p lesson lock) s = .next (close (answer p st 0x4D [] r))
    let puts (m : Nat) (y : Lesson) (k : TaskKind) (g : TaskStage) (op : OpKind) : State :=
      let v : State := { r with cat := { r.cat with
        lessons := r.cat.lessons.setIfInBounds m y, tasks := r.cat.tasks ++ [{ kind := k, stage := g, granted := false }] } }
      if r.cat.tasks = [] then present .writer { dev := .d0, kind := op, addr := m * 4096 } v else v
    let bad : Prop := name = [] ∨ ∃ b ∈ name, b.toNat < 0x20 ∨ 0x7E < b.toNat
    let selects (l : Option Nat) : Prop := exec (.selectLesson p lesson) s =
      .next (answer p .ok 0x4C (match l with
        | none => [0]
        | some m => [1, BitVec.ofNat 8 m]) (r.modPort p fun q => { q with lesson := l }))
    (r.cat.store = .unmounted → gate .notMounted) ∧ (r.cat.store = .mounting → gate .notReady) ∧
    (r.cat.store = .mounted →
      (bad → exec (.newLesson p name) s = .next (close (answer p .badParam 0x4B [] r))) ∧
      (¬ bad → (∀ m < 64, (r.lesson m).state ≠ .empty) →
        exec (.newLesson p name) s = .next (close (answer p .catalogueFull 0x4B [] r))) ∧
      (∀ m < 64, ¬ bad → (r.lesson m).state = .empty → (∀ i < m, (r.lesson i).state ≠ .empty) →
        let y : Lesson := { state := .rewriting, name := name.take 24, lock := false, count := 0, deferred := false }
        exec (.newLesson p name) s = .next (close (answer p .accepted 0x4B
          (u8 m ++ u8 (name.take 24).length ++ name.take 24)
          (puts m y (.lessonCreate m p) .body (.program (bodyProgram (lessonBody m y))))))) ∧
      (lesson = 0xFF → selects none) ∧
      (lesson ≠ 0xFF → x.state = .live → selects (some n)) ∧
      (lesson ≠ 0xFF → x.state = .rewriting → exec (.selectLesson p lesson) s = .next (answer p .busy 0x4C [] r)) ∧
      (lesson ≠ 0xFF → (x.state = .empty ∨ x.state = .wiped) →
        exec (.selectLesson p lesson) s = .next (answer p .noSuchLesson 0x4C [] r)) ∧
      (x.state = .rewriting → exec (.setLessonLock p lesson lock) s = .next (close (answer p .busy 0x4D [] r))) ∧
      ((x.state = .empty ∨ x.state = .wiped) →
        exec (.setLessonLock p lesson lock) s = .next (close (answer p .noSuchLesson 0x4D [] r))) ∧
      (x.state = .live → (lock ≠ 0 ↔ x.lock = true) →
        exec (.setLessonLock p lesson lock) s = .next (close (answer p .ok 0x4D [] r))) ∧
      (x.state = .live → ¬ (lock ≠ 0 ↔ x.lock = true) →
        exec (.setLessonLock p lesson lock) s = .next (close (answer p .accepted 0x4D []
          (puts n { x with state := .rewriting, lock := !x.lock } (.lessonRewrite n (some (p, x.lock))) .erase
            .sectorErase)))))

/-- O38 (R145, R147, R150, R163, R164, R167, R196). At a port that takes requests with the store MOUNTED.
DELETE_PAGE of a page that is not STORED is answered NO_SUCH_PAGE, of a locked lesson's page LESSON_LOCKED, of
a REWRITING lesson's page BUSY; else the page is RETIRING with mark PENDING, its lesson's count falls by one,
its retire task stands last, the answer is OK and CATALOGUE_CHANGED goes to the other two ports. WIPE_LESSON
answers NO_SUCH_LESSON, BUSY, LESSON_LOCKED or BUSY for a lesson a job saves into; else it is ACCEPTED: the
lesson is REWRITING with count 0 and no port's current lesson, each of its STORED pages is RETIRING, and their
retire tasks in sequence order and then the lesson's stand last. Outside MOUNTED both answer NOT_MOUNTED or
NOT_READY. That a page of a lesson both locked and REWRITING is answered LESSON_LOCKED is the model's choice
of log 38, the presence byte before CATALOGUE_CHANGED's page that of log 16; the order of WIPE_LESSON's
refusals is deduced (log 48). -/
def Obligations.PageAndWipeRequestsRetire : Prop :=
  ∀ (p : PortId) (page : Half) (lesson : Byte) (s : State), Serves p s →
    let r := requestTaken p s
    let n := page.toNat
    let g := r.page n
    let o := r.lesson g.lesson
    let m := lesson.toNat
    let x := r.lesson m
    let ends (c : Instr) (code : Byte) (st : Status) : Prop := exec c s = .next (close (answer p st code [] r))
    let retiring (y : Page) : Page := { y with state := .retiring, mark := .pending }
    (r.cat.store = .unmounted → ends (.deletePage p page) 0x4E .notMounted ∧ ends (.wipeLesson p lesson) 0x4F .notMounted) ∧
    (r.cat.store = .mounting → ends (.deletePage p page) 0x4E .notReady ∧ ends (.wipeLesson p lesson) 0x4F .notReady) ∧
    (r.cat.store = .mounted →
      (g.state ≠ .stored → ends (.deletePage p page) 0x4E .noSuchPage) ∧
      (g.state = .stored → o.lock = true → ends (.deletePage p page) 0x4E .lessonLocked) ∧
      (g.state = .stored → o.lock = false → o.state = .rewriting → ends (.deletePage p page) 0x4E .busy) ∧
      (g.state = .stored → o.lock = false → o.state ≠ .rewriting →
        let task : Task := { kind := .pageRetire n none, stage := .retire, granted := false }
        let v : State := { r with cat := { r.cat with
          pages := r.cat.pages.setIfInBounds n (retiring g)
          lessons := r.cat.lessons.setIfInBounds g.lesson { o with count := o.count - 1 }
          tasks := r.cat.tasks ++ [task] } }
        let w := if r.cat.tasks = [] then
            present .writer { dev := .d0, kind := .program retireProgram, addr := (64 + n) * 4096 } v else v
        let shown := (List.range 64).countP fun i => decide ((w.lesson i).state = .live ∨ (w.lesson i).state = .rewriting)
        let stored := (List.range 1024).countP fun i => decide ((w.page i).state = .stored)
        exec (.deletePage p page) s = .next (close (postOthers p
          { kind := .catalogueChanged
            contents := u8 shown ++ u16 stored ++ u8 g.lesson ++ 1 :: u16 n ++ u8 (portNumber p) }
          (answer p .ok 0x4E [] w)))) ∧
      ((x.state = .empty ∨ x.state = .wiped) → ends (.wipeLesson p lesson) 0x4F .noSuchLesson) ∧
      (x.state = .rewriting → ends (.wipeLesson p lesson) 0x4F .busy) ∧
      (x.state = .live → x.lock = true → ends (.wipeLesson p lesson) 0x4F .lessonLocked) ∧
      (x.state = .live → x.lock = false → (∃ j ∈ r.sre.jobs, j.lesson = m) → ends (.wipeLesson p lesson) 0x4F .busy) ∧
      (x.state = .live → x.lock = false → (∀ j ∈ r.sre.jobs, j.lesson ≠ m) →
        ∃ (w : State) (l : List Nat), exec (.wipeLesson p lesson) s = .next (close (answer p .accepted 0x4F [] w)) ∧
          l.Nodup ∧ (∀ i, i ∈ l ↔ i < 1024 ∧ (r.page i).state = .stored ∧ (r.page i).lesson = m) ∧
          l.Pairwise (fun a b => (r.page a).seq ≤ (r.page b).seq) ∧
          w.cat.tasks = r.cat.tasks ++
            l.map (fun i => { kind := .pageRetire i (some m), stage := .retire, granted := false }) ++
            [{ kind := .lessonRetire m p none, stage := .retire, granted := false }] ∧
          (∀ i, w.page i = if i ∈ l then retiring (r.page i) else r.page i) ∧
          w.lesson m = { x with state := .rewriting, count := 0 } ∧ (∀ i, i ≠ m → w.lesson i = r.lesson i) ∧
          (∀ q, w.port q = { r.port q with
            lesson := if (r.port q).lesson = some m then none else (r.port q).lesson }) ∧
          w.fst = r.fst ∧ w.mem = r.mem ∧ w.sre = r.sre ∧ w.disp = r.disp ∧ w.cat.blocks = r.cat.blocks))

/-- O39 (R150, R165, R196). At a port that takes requests, both are answered NOT_MOUNTED or NOT_READY outside
MOUNTED. LIST_LESSONS answers, for the LIVE and REWRITING lessons from the starting number on in rising
number, up to 8 entries of number, state, name, lock and page count, and a flag that says whether another
follows. LIST_PAGES answers NO_SUCH_LESSON for any other lesson, and else for the lesson's STORED pages from
the starting sequence on (0 is taken as 1) in rising sequence up to 8 entries of page, sequence, mode, save
sequence and captured fields, and the same flag. Nothing but the answer is added. The position of a lesson
state (LIVE 1, REWRITING 2) is the model's choice of log 16. -/
def Obligations.ListRequestsPageThroughTheCatalogue : Prop :=
  ∀ (p : PortId) (lesson : Byte) (start : Half) (s : State), Serves p s →
    let r := requestTaken p s
    let n := lesson.toNat
    let listed (i : Nat) : Prop := (r.lesson i).state = .live ∨ (r.lesson i).state = .rewriting
    let ends (c : Instr) (code : Byte) (st : Status) : Prop := exec c s = .next (answer p st code [] r)
    let lists (c : Instr) (code : Byte) (entry : Nat → List Byte) (l : List Nat) : Prop :=
      exec c s = .next (answer p .ok code
        (u8 (min 8 l.length) ++ (l.take 8).flatMap entry ++ flagByte (decide (8 < l.length))) r)
    (r.cat.store = .unmounted →
      ends (.listLessons p lesson) 0x50 .notMounted ∧ ends (.listPages p lesson start) 0x51 .notMounted) ∧
    (r.cat.store = .mounting →
      ends (.listLessons p lesson) 0x50 .notReady ∧ ends (.listPages p lesson start) 0x51 .notReady) ∧
    (r.cat.store = .mounted →
      (∃ l : List Nat, l.Pairwise (· < ·) ∧ (∀ i, i ∈ l ↔ n ≤ i ∧ i < 64 ∧ listed i) ∧
        lists (.listLessons p lesson) 0x50 (fun i =>
          let x := r.lesson i
          u8 i ++ u8 x.state.code ++ u8 x.name.length ++ x.name ++ flagByte x.lock ++ u16 x.count) l) ∧
      (¬ listed n → ends (.listPages p lesson start) 0x51 .noSuchLesson) ∧
      (listed n → (∀ i, (r.page i).state = .stored → 1 ≤ (r.page i).seq) →
        ∃ l : List Nat, l.Nodup ∧ l.Pairwise (fun a b => (r.page a).seq ≤ (r.page b).seq) ∧
          (∀ i, i ∈ l ↔ i < 1024 ∧ (r.page i).state = .stored ∧ (r.page i).lesson = n ∧
            max 1 start.toNat ≤ (r.page i).seq) ∧
          lists (.listPages p lesson start) 0x51 (fun i =>
            let x := r.page i
            let c := x.captured
            u16 i ++ u16 x.seq ++ u8 x.mode.code ++ u32 x.saveSeq ++ [c.kind] ++ u16 c.zc.toNat ++ u16 c.cx.toNat ++
              u16 c.cy.toNat ++ [c.flatten, c.sharpen, c.core, c.threshold]) l))

/-- O40 (R152). For any page table, the pass of R152 leaves no two STORED pages that list one block or stand in
one lesson with one sequence. It changes nothing but the state and retire mark of pages that were STORED,
which become RETIRED with mark DONE; each of those conflicted with another page that was STORED and had a
higher save sequence, or an equal one and a lower number. The manual gives no order for the pairs: the
statement holds for every choice of the free value of log entry 9. That the mark is DONE is the model's choice
(log 46). -/
def Obligations.DuplicatePassLeavesNoConflict : Prop :=
  ∀ s : State,
    let t := resolveDuplicates 1024 s
    let conflict (a b : Page) : Prop := (∃ g ∈ a.blocks, g ∈ b.blocks) ∨ (a.lesson = b.lesson ∧ a.seq = b.seq)
    (∀ p q, p < 1024 → q < 1024 → p ≠ q → (t.page p).state = .stored → (t.page q).state = .stored →
      ¬ conflict (t.page p) (t.page q)) ∧
    (∀ p, t.page p = s.page p ∨
      ((s.page p).state = .stored ∧ t.page p = { s.page p with state := .retired, mark := .done } ∧
        ∃ q, q < 1024 ∧ q ≠ p ∧ (s.page q).state = .stored ∧
          (conflict (s.page p) (s.page q) ∨ conflict (s.page q) (s.page p)) ∧
          ((s.page p).saveSeq < (s.page q).saveSeq ∨ ((s.page p).saveSeq = (s.page q).saveSeq ∧ q < p)))) ∧
    t = { s with cat := { s.cat with pages := t.cat.pages } }

/-- O41 (R146, R150, R151, R152, R153, R167, R196). While a mount stands at area n: a read that ends with
DEVICE_FAULT fails the mount with that result, the tables cleared and STORE_STATE posted to all. A read that
ends with its bytes classifies the area, and the next area's read is presented. After the last, with no task
on the list (StoreSound): the duplicate pass runs; every lesson that is not LIVE and has a STORED page is
REWRITING, unlocked, as "LESSON nn", its rewrite task on the list in lesson order, with the sector erase where
it was WIPED; each lesson's count is the number of its STORED pages and its deferred flag clear; blocks of
STORED pages are USED, other image blocks of RETIRED pages DIRTY, other image blocks UNKNOWN; the cursor is
68, the reservation 0, the save sequence 1 above the largest read below 4,294,967,295; the store is MOUNTED,
STORE_STATE carries the five counts to all ports, and the first task begins. Nothing outside the catalogue,
the ports and what waits for the bus changes. The order in which the duplicate pass takes its pairs is the
free value of log 9, the layout of the notice that of log 16. -/
def Obligations.MountScanBuildsTheTables : Prop :=
  ∀ (n : Nat) (q : Option PortId) (s : State), s.cat.mount = some { stage := .area n, requester := q } →
    let c := s.cat
    mountResult .deviceFault s = postAll { kind := .storeState, contents := [0, 3, 0, 0, 0, 0, 0] }
      { s with cat := { Catalogue.reset with lastMount := .deviceFault } } ∧
    ∀ bytes : List Byte,
      let v : State := { s with cat :=
        if n < 64 then { c with lessons := c.lessons.setIfInBounds n (readLesson n bytes) }
        else { c with pages := c.pages.setIfInBounds (n - 64) (readPage c (n - 64) bytes) } }
      (n + 1 < 1088 → mountResult (.done bytes) s =
        present .mount { dev := .d0, kind := .read 256, addr := (n + 1) * 4096 }
          { v with cat := { v.cat with mount := some { stage := .area (n + 1), requester := q } } }) ∧
      (1088 ≤ n + 1 → c.tasks = [] →
        let u := resolveDuplicates 1024 v
        let stored (m p : Nat) : Prop := p < 1024 ∧ (u.page p).state = .stored ∧ (u.page p).lesson = m
        let recovered (m : Nat) : Prop := m < 64 ∧ (v.lesson m).state ≠ .live ∧ ∃ p, stored m p
        let image (g : Nat) : Prop := if g < 4096 then c.present0 = true ∧ 68 ≤ g else c.present1 = true
        let used (g : Nat) : Prop := ∃ p < 1024, (u.page p).state = .stored ∧ g ∈ (u.page p).blocks
        let dirty (g : Nat) : Prop := ∃ p < 1024, (u.page p).state = .retired ∧ g ∈ (u.page p).blocks
        ∃ (w : State) (l : List Nat) (top : Nat), w = { s with cat := w.cat } ∧
          l.Pairwise (· < ·) ∧ (∀ m, m ∈ l ↔ recovered m) ∧ w.cat.pages = u.cat.pages ∧
          (∀ m < 64,
            let count := ((List.range 1024).filter fun p =>
              decide ((u.page p).state = .stored ∧ (u.page p).lesson = m)).length
            (recovered m → w.lesson m =
              { state := .rewriting, name := [0x4C, 0x45, 0x53, 0x53, 0x4F, 0x4E, 0x20, BitVec.ofNat 8 (0x30 + m / 10),
                  BitVec.ofNat 8 (0x30 + m % 10)], lock := false, count := count, deferred := false }) ∧
            (¬ recovered m → w.lesson m = { v.lesson m with count := count, deferred := false })) ∧
          w.cat.tasks = l.map (fun m =>
            { kind := .lessonRewrite m none, stage := if (v.lesson m).state = .wiped then .erase else .body,
              granted := false }) ∧
          (∀ g < 8192, (used g → w.block g = some .used) ∧ (¬ used g → image g → dirty g → w.block g = some .dirty) ∧
            (¬ used g → image g → ¬ dirty g → w.block g = some .unknown) ∧ (¬ used g → ¬ image g → w.block g = none)) ∧
          (∀ p < 1024, (u.page p).state ≠ .empty → (u.page p).saveSeq < 4294967295 → (u.page p).saveSeq ≤ top) ∧
          (top = 0 ∨ ∃ p < 1024, (u.page p).state ≠ .empty ∧ (u.page p).saveSeq < 4294967295 ∧ (u.page p).saveSeq = top) ∧
          w.cat = { w.cat with
            store := .mounted, lastMount := .mounted, mount := none, present0 := c.present0, present1 := c.present1,
            cursor := some 68, reserved := some 0, saveSeq := some (top + 1), reclaim := c.reclaim, alloc := c.alloc } ∧
          let lessons (x : LessonState) : Nat := (List.range 64).countP fun m => decide ((w.lesson m).state = x)
          let pages (x : PageState) : Nat := (List.range 1024).countP fun p => decide ((w.page p).state = x)
          let told := postAll
            { kind := .storeState
              contents := [2, 1] ++ 1 :: u8 (lessons .live + lessons .rewriting) ++ 1 :: u16 (pages .stored) ++
                1 :: u8 l.length ++ 1 :: u16 (pages .retired + lessons .wiped) ++
                1 :: u8 ((if c.present0 then 0 else 1) + (if c.present1 then 0 else 1)) } w
          mountResult (.done bytes) s = match l with
            | [] => told
            | m :: _ => present .writer
                { dev := .d0
                  kind := if (v.lesson m).state = .wiped then .sectorErase
                    else .program (bodyProgram (lessonBody m (w.lesson m)))
                  addr := m * 4096 } told)

/-- O42 (R144, R145, R146, R147, R148, R160, R162, R163, R164, R167, R196). Where an operation of the oldest task
ends with DONE and one follows it (erase, body, commit), that one is presented: a sector erase, or a program
of the body, commit or retire bytes in the task's sector. Where none follows, or the end is TIMEOUT or
DEVICE_FAULT, the task leaves the list with its outcome and the next begins. A create makes its lesson LIVE,
or WIPED or EMPTY by whether a program was granted; a lock change LIVE with the new flag, or the old one; a
recovery LIVE; a timed out sector erase sets the deferred flag. A page retire sets mark DONE, and with no pin
the page RETIRED and its blocks DIRTY; a timeout makes it BAD; the lesson retire of its wipe keeps the first
result that was not DONE. A lesson retire makes the lesson WIPED and reports that result, or its own.
LESSON_CHANGED goes to the requester and CATALOGUE_CHANGED to the others. A page commit ends as
SaveWriterProgramsCommitsOrFails states. Nothing else changes. The model's choices: LESSON_CHANGED's request
byte, the positions of the lesson states and the presence byte before CATALOGUE_CHANGED's page (log 16), and
the empty name and clear lock flag of a lesson gone back to EMPTY (log 28). -/
def Obligations.CatalogueWriterRunsItsTasks : Prop :=
  ∀ (t : Task) (rest : List Task) (r : OpResult) (s : State), s.cat.tasks = t :: rest →
    let c := s.cat
    let op (x : Task) (v : State) : BusOp :=
      { dev := .d0
        kind := match x.stage with
          | .erase => .sectorErase
          | .body => .program ((match x.kind with
              | .lessonCreate n _ => lessonBody n (v.lesson n)
              | .lessonRewrite n _ => lessonBody n (v.lesson n)
              | .pageCommit p => pageBody p (v.page p)
              | _ => []) ++ [0xFF, 0xFF])
          | .commit => .program (List.replicate 254 0xFF ++ [0x00, 0xFF])
          | .retire => .program (List.replicate 254 0xFF ++ [0xFF, 0x00])
        addr := 4096 * (match x.kind with
          | .lessonCreate n _ => n
          | .lessonRewrite n _ => n
          | .lessonRetire n _ _ => n
          | .pageRetire p _ => 64 + p
          | .pageCommit p => 64 + p) }
    let begins (v : State) : State := match v.cat.tasks with
      | [] => v
      | x :: _ => present .writer (op x v) v
    let goes (v : State) : Prop := writerResult r s = begins v
    let done : Prop := ∃ bytes, r = .done bytes
    let e : State := { s with cat := { c with tasks := rest } }
    let told (code : Byte) (result : OpResult) (n : Nat) (p : PortId) (v : State) : State :=
      post p
        { kind := .lessonChanged
          contents := u8 n ++ [code] ++ u8 (match result with
              | .done _ => 0
              | .timeout => 1
              | .deviceFault => 2) ++ u8 (v.lesson n).state.code ++ u8 (v.lesson n).name.length ++ (v.lesson n).name ++
            flagByte (v.lesson n).lock } v
    let changed (n : Nat) (p : PortId) (v : State) : State :=
      let shown := (List.range 64).countP fun i => decide ((v.lesson i).state = .live ∨ (v.lesson i).state = .rewriting)
      let stored := (List.range 1024).countP fun i => decide ((v.page i).state = .stored)
      postOthers p { kind := .catalogueChanged, contents := u8 shown ++ u16 stored ++ u8 n ++ 0 :: u8 (portNumber p) } v
    let puts (n : Nat) (x : Lesson) : State := { e with cat := { e.cat with lessons := c.lessons.setIfInBounds n x } }
    let putPage (n : Nat) (x : Page) : State := { e with cat := { e.cat with pages := c.pages.setIfInBounds n x } }
    let onward (stage : TaskStage) : Prop :=
      goes { s with cat := { c with tasks := { t with stage := stage } :: rest } }
    (done → t.stage = .erase → onward .body) ∧ (done → t.stage = .body → onward .commit) ∧
    ((done → t.stage = .commit ∨ t.stage = .retire) →
      (∀ n p, t.kind = .lessonCreate n p →
        (done → goes (changed n p (told 0x4B r n p (puts n { s.lesson n with state := .live })))) ∧
        (¬ done → goes (told 0x4B r n p (puts n (if t.granted then { s.lesson n with state := .wiped } else {}))))) ∧
      (∀ n change, t.kind = .lessonRewrite n change →
        let x : Lesson := { s.lesson n with
          deferred := if t.stage = .erase ∧ r = .timeout then true else (s.lesson n).deferred }
        (change = none → goes (puts n { x with state := .live })) ∧
        ∀ p old, change = some (p, old) →
          (done → goes (changed n p (told 0x4D r n p (puts n { x with state := .live })))) ∧
          (¬ done → goes (told 0x4D r n p (puts n { x with state := .live, lock := old })))) ∧
      (∀ n wipe, t.kind = .pageRetire n wipe →
        let g := s.page n
        let v : State := match r with
          | .done _ => if g.state = .retiring ∧ g.pins = 0 then
              (putPage n { g with state := .retired, mark := .done }).setBlocks g.blocks .dirty
            else putPage n { g with mark := .done }
          | .timeout => putPage n { g with state := .bad }
          | .deviceFault => e
        (wipe = none → goes v) ∧
        ∀ l, wipe = some l → goes { v with cat := { v.cat with tasks := rest.map fun y => match y.kind with
          | .lessonRetire m p first =>
            if m = l then
              { y with kind := .lessonRetire m p (match first, r with
                | some f, _ => some f
                | none, .done _ => none
                | none, _ => some r) }
            else y
          | _ => y } }) ∧
      (∀ n p first, t.kind = .lessonRetire n p first →
        goes (changed n p (told 0x4F (first.getD r) n p (puts n { s.lesson n with state := .wiped })))) ∧
      ∀ n, t.kind = .pageCommit n → goes (commitEnds n t.granted r e))

/-- O43 (R146, R147, R156, R157, R159). Scan order runs over the image blocks of present devices that are not
FAULTED, from the cursor on and round. An allocation takes the first FREE block: USED, cursor at the next
image block. With none FREE the first UNKNOWN block is checked by 16 reads of 4,096 bytes: 16 of 0xFF take it,
any other byte makes it DIRTY and the scan goes on with the next UNKNOWN block, as it does, the block
unchanged, at a DEVICE_FAULT. With neither, it waits while a DIRTY or ERASING block exists, and else ends with
STORE_FULL. The reclaimer, MOUNTED and with no item, takes the lowest sector of a RETIRED page or of a WIPED
lesson not deferred, where D0 is not FAULTED, else the lowest DIRTY block of a device that is not; a lesson or
page whose erase is DONE is EMPTY, a block FREE; a timeout defers the lesson, makes page or block BAD; a fault
leaves the record and makes the block DIRTY; after a block a waiting allocation resumes. The model's choices:
a scan with no UNKNOWN block left starts again (log 17), and the cursor goes by the devices present, also past
a block whose next one lies on a FAULTED device (log 42). -/
def Obligations.AllocationAndReclaimFollowTheirScans : Prop :=
  (∀ s : State,
    let c := s.cat
    let k := c.cursor.getD 68
    let dev (g : Nat) : DevId := if g < 4096 then .d0 else .d1
    let able (g : Nat) : Prop := g < 8192 ∧ (if g < 4096 then c.present0 = true ∧ 68 ≤ g else c.present1 = true) ∧
      ∀ x y, (s.device (dev g)).state ≠ .faulted x y
    let turn (g : Nat) : Nat := if k ≤ g then g else g + 8192
    let first (x : BlockState) (v : State) (g : Nat) : Prop := able g ∧ v.block g = some x ∧
      ∀ h, able h → v.block h = some x → turn g ≤ turn h
    let none' (x : BlockState) (v : State) : Prop := ∀ g, able g → v.block g ≠ some x
    let takes (g : Nat) : Allocated × State := (.block g, { s with cat := { c with
      blocks := c.blocks.setIfInBounds g (some .used), alloc := .idle
      cursor := some (if g = 8191 ∨ (g = 4095 ∧ c.present1 = false) then 68 else g + 1) } })
    let checks (g n : Nat) (v : State) : Allocated × State := (.later,
      present .blank { dev := dev g, kind := .read 4096, addr := g % 4096 * 65536 + 4096 * n }
        { v with cat := { v.cat with alloc := .checking g n } })
    let goesOn (v : State) (o : Allocated × State) : Prop :=
      (∀ h, first .unknown v h → o = checks h 0 v) ∧ (none' .unknown v → o = allocate v)
    (∀ g, first .free s g → allocate s = takes g) ∧
    (none' .free s → ∀ g, first .unknown s g → allocate s = checks g 0 s) ∧
    (none' .free s → none' .unknown s →
      (¬ (none' .dirty s ∧ none' .erasing s) → allocate s = (.later, { s with cat := { c with alloc := .waiting } })) ∧
      (none' .dirty s → none' .erasing s → allocate s = (.full, { s with cat := { c with alloc := .idle } }))) ∧
    ∀ g n, c.alloc = .checking g n →
      (∀ bytes : List Byte, (∀ b ∈ bytes, b = 0xFF) →
        (n < 15 → checkEnds (.done bytes) s = checks g (n + 1) s) ∧ (n = 15 → checkEnds (.done bytes) s = takes g)) ∧
      (∀ bytes : List Byte, (∃ b ∈ bytes, b ≠ 0xFF) → goesOn
        { s with cat := { c with blocks := c.blocks.setIfInBounds g (some .dirty) } } (checkEnds (.done bytes) s)) ∧
      goesOn s (checkEnds .deviceFault s)) ∧
  ∀ s : State,
    let c := s.cat
    let faulted (d : DevId) : Prop := ∃ x y, (s.device d).state = .faulted x y
    let wants (n : Nat) : Prop := n < 1088 ∧ (if n < 64 then (s.lesson n).state = .wiped ∧ (s.lesson n).deferred = false
      else (s.page (n - 64)).state = .retired)
    let dirty (g : Nat) : Prop := g < 8192 ∧ (if g < 4096 then c.present0 = true ∧ 68 ≤ g else c.present1 = true) ∧
      s.block g = some .dirty ∧ ¬ faulted (if g < 4096 then .d0 else .d1)
    let takes (i : ReclaimItem) (d : DevId) (k : OpKind) (addr : Nat) : Prop := kickReclaim s =
      present .reclaim { dev := d, kind := k, addr := addr } { s with cat := { c with reclaim := some i } }
    let noSector : Prop := faulted .d0 ∨ ∀ n, ¬ wants n
    ((c.store ≠ .mounted ∨ c.reclaim ≠ none) → kickReclaim s = s) ∧
    (c.store = .mounted → c.reclaim = none →
      (∀ n, ¬ faulted .d0 → wants n → (∀ m < n, ¬ wants m) → takes (.sector n) .d0 .sectorErase (n * 4096)) ∧
      (∀ g, noSector → dirty g → (∀ h < g, ¬ dirty h) →
        takes (.block g) (if g < 4096 then .d0 else .d1) .blockErase (g % 4096 * 65536)) ∧
      (noSector → (∀ g, ¬ dirty g) → kickReclaim s = s)) ∧
    ∀ (r : OpResult),
      let e : State := { s with cat := { c with reclaim := none } }
      (∀ n, c.reclaim = some (.sector n) → reclaimResult r s = (match r with
        | .done _ => if n < 64 then e.setLesson n {} else e.setPage (n - 64) {}
        | .timeout => if n < 64 then e.setLesson n { s.lesson n with deferred := true }
            else e.setPage (n - 64) { s.page (n - 64) with state := .bad }
        | .deviceFault => e)) ∧
      ∀ g, c.reclaim = some (.block g) →
        let v := e.setBlock g (some (match r with
          | .done _ => .free
          | .timeout => .bad
          | .deviceFault => .dirty))
        (c.alloc = .waiting → reclaimResult r s = serve serveFuel (allocate v)) ∧
        (c.alloc ≠ .waiting → reclaimResult r s = v)

/-- O44 (R20, R53, R68, R119, R158, R169, R170, R171). At a port that takes requests SAVE_PAGE is refused, with
nothing changed, by the first of: store not MOUNTED; mode not TEXT or PHOTO; no current lesson; lesson
REWRITING; lesson locked; 4 jobs; 2 jobs with a slot; no source slot; no EMPTY page; a page of sequence 999 in
the lesson; fewer blocks left unreserved than the mode needs. Otherwise it is ACCEPTED: the lowest EMPTY page
is WRITING with the next sequence, the save sequence counter's value and the captured view and settings, the
reservation rises by 16 or 48, a save holder stands on the source slot, the job stands last on the list, and
the idle hold is set. It is RENDERING in the lower free buffer where no job is PENDING or RENDERING, and else
PENDING, under the premise that a PENDING job waits for one in RENDERING or for two taken buffers, which every
step keeps (JobsSound.waits of CatalogueStaysSound). Frame memory, views, settings, display and the store bus
keep their values. -/
def Obligations.SavePageChecksInOrderAndTakesItsFrame : Prop :=
  ∀ (p : PortId) (mode : Byte) (s : State), Serves p s →
    let r := requestTaken p s
    let refused (st : Status) : Prop := exec (.savePage p mode) s = .next (answer p st 0x58 [] r)
    let slots := (r.sre.jobs.filter fun j => decide (j.state = .pending ∨ j.state = .rendering)).length
    let source := match r.disp.mode with
      | .frozen => holderSlot r .freeze
      | .page => holderSlot r .page
      | _ => newestReady r
    let m : PageMode := if mode = 0 then .text else .photo
    let down (d : DevId) : Prop := ∃ c u, (r.device d).state = .faulted c u
    let left (g : Nat) : Prop := ¬ down (if g < 4096 then .d0 else .d1) ∧
      (if g < 4096 then r.cat.present0 = true ∧ 68 ≤ g else r.cat.present1 = true) ∧
      (r.block g = some .free ∨ r.block g = some .unknown ∨ r.block g = some .dirty ∨ r.block g = some .erasing)
    let fits (n : Nat) : Prop := ∃ l : List Nat, l.Nodup ∧ l.length = n ∧ ∀ g ∈ l, g < 8192 ∧ left g
    (r.cat.store = .unmounted → refused .notMounted) ∧ (r.cat.store = .mounting → refused .notReady) ∧
    (r.cat.store = .mounted → (1 < mode.toNat → refused .badParam) ∧
      (mode.toNat ≤ 1 → ((r.port p).lesson = none → refused .noLesson) ∧
        ∀ l, (r.port p).lesson = some l →
          let x := r.lesson l
          let counts (n : Nat) : Prop := n < 1024 ∧ (r.page n).lesson = l ∧
            ((r.page n).state = .stored ∨ (r.page n).state = .writing)
          (x.state = .rewriting → refused .busy) ∧
          (x.state ≠ .rewriting → (x.lock = true → refused .lessonLocked) ∧
          (x.lock = false → (4 ≤ r.sre.jobs.length → refused .busy) ∧
          (r.sre.jobs.length < 4 → (2 ≤ slots → refused .busy) ∧
          (slots < 2 → (source = none → refused .noFrame) ∧
          ∀ slot, source = some slot → ((∀ n < 1024, (r.page n).state ≠ .empty) → refused .catalogueFull) ∧
          ∀ page < 1024, (r.page page).state = .empty → (∀ i < page, (r.page i).state ≠ .empty) →
            ((∃ n, counts n ∧ 999 ≤ (r.page n).seq) → refused .lessonFull) ∧
            ∀ top, (∀ n, counts n → (r.page n).seq ≤ top) → (top = 0 ∨ ∃ n, counts n ∧ (r.page n).seq = top) → top < 999 →
              (¬ fits (r.cat.reserved.getD 0 + m.blockCount) → refused .storeFull) ∧
              (fits (r.cat.reserved.getD 0 + m.blockCount) →
                ∃ (t : State) (j : Job) (v : ViewRecord),
                  exec (.savePage p mode) s = .next (answer p .accepted 0x58 (u16 page ++ u8 l ++ u16 (top + 1)) t) ∧
                  v = (if r.disp.mode = .page then r.vwc.page else r.vwc.live) ∧
                  (let kind := ((r.slot slot).kind).getD .sensor
                   let w := windowOf kind.width kind.height m.target.1 m.target.2 v.zc v.qx v.qy
                   j.requester = p ∧ j.lesson = l ∧ j.page = page ∧ j.seq = top + 1 ∧
                   j.saveSeq = r.cat.saveSeq.getD 1 ∧ j.mode = m ∧
                   j.view = { kind := kind, zc := v.zc, cx := w.cx, cy := w.cy } ∧ j.enh = r.ren.enh ∧
                   j.tone = r.ren.active ∧ j.blocks = [] ∧ j.done = 0 ∧ j.relocations = 0 ∧ j.remaining = m.blockCount) ∧
                  j.source = some (slot, if (holderSlot r .saveA).isSome then .saveB else .saveA) ∧
                  (slots = 0 → ∀ b, (b = 0 ∨ b = 1) → (∀ i ∈ r.sre.jobs, i.buffer ≠ some b) →
                    (b = 1 → ∃ i ∈ r.sre.jobs, i.buffer = some 0) → j.state = .rendering ∧ j.buffer = some b) ∧
                  ((∃ i ∈ r.sre.jobs, i.buffer = some 0) → (∃ i ∈ r.sre.jobs, i.buffer = some 1) →
                    j.state = .pending ∧ j.buffer = none) ∧
                  ((∃ i ∈ r.sre.jobs, i.state = .rendering) → j.state = .pending ∧ j.buffer = none) ∧
                  (((∃ i ∈ r.sre.jobs, i.state = .pending) → (∃ i ∈ r.sre.jobs, i.state = .rendering) ∨
                      ((∃ i ∈ r.sre.jobs, i.buffer = some 0) ∧ ∃ i ∈ r.sre.jobs, i.buffer = some 1)) →
                    t.sre = { jobs := r.sre.jobs ++ [j], recalling := r.sre.recalling }) ∧
                  t.sre.jobs.length = r.sre.jobs.length + 1 ∧
                  t.page page = ({ state := .writing, lesson := l, seq := top + 1, mode := m, saveSeq := j.saveSeq,
                                   captured := capturedRecord j.view r.ren.enh } : Page) ∧
                  (∀ n, n ≠ page → t.page n = r.page n) ∧
                  t.cat.reserved = r.cat.reserved.map (· + m.blockCount) ∧
                  t.cat.saveSeq = r.cat.saveSeq.map (fun n => if n = 4294967295 then n else n + 1) ∧
                  t.liu.hold = true ∧ t.liu.doze = r.liu.doze ∧ t.liu.level = r.liu.level ∧
                  (t.slot slot).holders = (if (holderSlot r .saveA).isSome then { (r.slot slot).holders with saveB := true }
                    else { (r.slot slot).holders with saveA := true }) ∧
                  (∀ n, n ≠ slot → t.slot n = r.slot n) ∧
                  t.mem = r.mem ∧ t.vwc = r.vwc ∧ t.ren = r.ren ∧ t.disp = r.disp ∧ t.ssq = r.ssq ∧ t.foc = r.foc ∧
                  t.opp = r.opp ∧ t.opt = r.opt ∧ t.sin = r.sin ∧ t.sst = r.sst ∧ t.cat.tasks = r.cat.tasks ∧
                  t.cat.lessons = r.cat.lessons ∧ t.cat.blocks = r.cat.blocks ∧
                  (∀ q, t.port q = r.port q))))))))

/-- O45 (R20, R65, R66, R172, R173, R187). SAVE_RENDER_END with no job in RENDERING only closes the event (the
model's choice of log 1). With one, among any other jobs: the image of R65 or R66, rendered from its source
slot with its captured window, settings and tone bank, stands in its save buffer and every other byte of frame
memory is as before; its save holder has left the source slot; the job is in WRITING with no source and an
empty block list; where a buffer is free and no job renders, the oldest PENDING job enters RENDERING in the
lower one; where no other job was being written the save writer asks for the job's first block; results then
reach their clients, the ports take what they may, and the bus is given out. This order, with CP0's next
request before CP1's and CP2's, is the model's choice of log 20, the whole image written in this event that of
log 8, the paper map at each pixel rests on the free value of log 7. A TEXT image is written in 4,050 programs
of 256 bytes and a PHOTO image in 12,150; it is read back in 254 or 760 pieces of at most 4,096 bytes, whose
lengths add up to the image. -/
def Obligations.SaveRenderEndWritesTheImage : Prop :=
  (∀ s : State,
    let held (b : Nat) : Prop := ∃ i ∈ s.sre.jobs, i.buffer = some b
    ((∃ i ∈ s.sre.jobs, i.state = .rendering) ∨ (held 0 ∧ held 1) ∨ (∀ i ∈ s.sre.jobs, i.state ≠ .pending) →
      kickRender s = s) ∧
    ∀ (before after : List Job) (i : Job) (b : Nat), s.sre.jobs = before ++ i :: after → i.state = .pending →
      (∀ k ∈ before, k.state ≠ .pending) → (∀ k ∈ s.sre.jobs, k.state ≠ .rendering) → (b = 0 ∨ b = 1) → ¬ held b →
      (b = 1 → held 0) →
      kickRender s = { s with sre := { s.sre with
        jobs := before ++ { i with state := .rendering, buffer := some b } :: after } }) ∧
  (∀ s : State,
    let ends (v : State) : Prop :=
      exec .saveRenderEnd s = andThen (settle (drainAll v)) (fun t => .next (close t)) ∧
      (Quiet s → exec .saveRenderEnd s = .next (close (drainAll v)))
    ((∀ j ∈ s.sre.jobs, j.state ≠ .rendering) → ends s) ∧
    ∀ (before after : List Job) (j : Job) (slot : Nat) (holder : SaveHolder) (b : Nat),
      s.sre.jobs = before ++ j :: after → (∀ i ∈ before, i.state ≠ .rendering) → j.state = .rendering →
      (s.sre.jobs.map Job.page).Nodup → j.source = some (slot, holder) → j.buffer = some b → slot < 10 →
      let kind : HolderKind := match holder with
        | .saveA => .saveA
        | .saveB => .saveB
      let image := saveImage j.mode (jobRender j slot s)
      let base := 251658240 + b * 3145728
      let k : Job := { j with state := .writing, source := none, blocks := [], done := 0, nextPage := 0, relocations := 0, marks := [] }
      ∃ u : State, u = { s with mem := u.mem, fst := u.fst, sre := { s.sre with jobs := before ++ k :: after } } ∧
        ((∀ i ∈ before ++ after, i.state ≠ .writing) → ends (serve serveFuel (allocate (kickRender u)))) ∧
        ((∃ i ∈ before ++ after, i.state = .writing) → ends (kickRender u)) ∧
        (∀ i < image.length, image[i]? = some (memRead u.mem (base + i))) ∧
        (∀ a, (a < base ∨ base + image.length ≤ a) → memRead u.mem a = memRead s.mem a) ∧
        (u.slot slot).holders.has kind = false ∧ (∀ n, n ≠ slot → u.slot n = s.slot n)) ∧
  (((List.range 16).map (programsIn .text)).sum = 4050 ∧ ((List.range 48).map (programsIn .photo)).sum = 12150 ∧
    pieceCount .text = 254 ∧ pieceCount .photo = 760) ∧
  ∀ m : PageMode, ((List.range (pieceCount m)).map (pieceBytes m)).sum = m.imageBytes ∧
    ∀ k < pieceCount m, 1 ≤ pieceBytes m k ∧ pieceBytes m k ≤ 4096

/-- O46 (R19, R119, R148, R150, R178, R179, R182, R183, R196). At a port that takes requests both are answered
NOT_MOUNTED or NOT_READY outside MOUNTED, and NO_SUCH_PAGE for a page that is not STORED; RECALL_PAGE answers
BAD_PARAM for a show beyond NO. Else a recall in flight is superseded and its requester told; where a slot can
be chosen the page's pin count rises, the slot is LOADING for it, the record stands at piece 0 whose read is
presented, the hold is set and the answer is ACCEPTED with page and slot. READ_PAGE_DATA answers BAD_PARAM
beyond the image; else the length is clamped to 1 to 256 and to the image, the page is pinned and the read up
to the block's end presented, with no answer yet. Where its bytes run past that block's end, the bytes of the
first read are kept, and the rest is presented at the start of the next listed block in the event in which the
first ends. The last result ends it: the pin is released and the answer is OK with all the bytes, or with
DEVICE_FAULT. That a DEVICE_FAULT of the first of two reads ends it too, without the second, is the model's
choice (log 47); that show is checked before the page is deduced (log 48). -/
def Obligations.RecallAndDirectReadPinTheirPage : Prop :=
  (∀ (p : PortId) (page : Half) (display : Byte) (offset : Quad) (length : Half) (s : State), Serves p s →
    let r := requestTaken p s
    let n := page.toNat
    let g := r.page n
    let both (recallStatus directStatus : Status) : Prop :=
      exec (.recallPage p page display) s = .next (close (answer p recallStatus 0x59 [] r)) ∧
      exec (.readPageData p page offset length) s = .next (close (answer p directStatus 0x5A [] r))
    let pinned (t : State) : State := { t with cat := { t.cat with
      pages := t.cat.pages.setIfInBounds n { t.page n with pins := (t.page n).pins + 1 } } }
    (r.cat.store = .unmounted → both .notMounted .notMounted) ∧ (r.cat.store = .mounting → both .notReady .notReady) ∧
    (r.cat.store = .mounted →
      (1 < display.toNat → exec (.recallPage p page display) s = .next (close (answer p .badParam 0x59 [] r))) ∧
      (display.toNat ≤ 1 → g.state ≠ .stored → both .noSuchPage .noSuchPage) ∧
      (display.toNat ≤ 1 → g.state = .stored →
        let u : State := match r.sre.recalling with
          | none => r
          | some o => post o.requester { kind := .recallSuperseded, contents := u16 o.page } (dropRecall o r)
        ∀ slot, chooseSlot u = some slot →
          let first := g.blocks.getD 0 0
          let record : Recall :=
            { page := n, mode := g.mode, blocks := g.blocks, requester := p, display := decide (display = 0),
              slot := slot, next := 0 }
          let v := (pinned u).setSlot slot { state := .loading, kind := some g.mode.kind, page := some n }
          let read : BusOp := { dev := if first < 4096 then .d0 else .d1, kind := .read 4096, addr := first % 4096 * 65536 }
          exec (.recallPage p page display) s = .next (close (answer p .accepted 0x59 (u16 n ++ u8 slot)
            (updateHold (present .recallReader read { v with sre := { v.sre with recalling := some record } }))))) ∧
      (g.state = .stored → g.mode.imageBytes ≤ offset.toNat →
        exec (.readPageData p page offset length) s = .next (close (answer p .badParam 0x5A [] r))) ∧
      (g.state = .stored → offset.toNat < g.mode.imageBytes →
        let o := offset.toNat
        let len := min (max 1 (min 256 length.toNat)) (g.mode.imageBytes - o)
        let block := g.blocks.getD (o / 65536) 0
        let read : BusOp := { dev := if block < 4096 then .d0 else .d1, kind := .read (min len (65536 - o % 65536)),
                              addr := block % 4096 * 65536 + o % 65536 }
        exec (.readPageData p page offset length) s = .next (close (present (.direct p) read
          ((pinned r).modPort p fun q => { q with direct := some { page := n, offset := o, length := len, got := [] } })))))) ∧
  ∀ (p : PortId) (d : DirectRead) (bytes : List Byte) (s : State), (s.port p).direct = some d →
    let t := (unpinPage d.page s).modPort p fun q => { q with direct := none }
    let head := u16 d.page ++ u32 d.offset ++ u16 d.length
    (let next := d.offset + d.got.length + bytes.length
     let block := (s.page d.page).blocks.getD (next / 65536) 0
     let left := d.length - d.got.length - bytes.length
     let kept : State := s.modPort p fun q => { q with direct := some { d with got := d.got ++ bytes } }
     let second (n addr : Nat) : State :=
       present (.direct p) { dev := if block < 4096 then .d0 else .d1, kind := .read n, addr := addr } kept
     d.got.length + bytes.length < d.length →
      directResult p (.done bytes) s = second (min left (65536 - next % 65536)) (block % 4096 * 65536 + next % 65536) ∧
      (next % 65536 = 0 → d.length ≤ 256 →
        directResult p (.done bytes) s = second left (block % 4096 * 65536))) ∧
    (d.got.length + bytes.length = d.length →
      directResult p (.done bytes) s = answer p .ok 0x5A (head ++ [0] ++ d.got ++ bytes) t) ∧
    directResult p .deviceFault s = answer p .ok 0x5A (head ++ [1]) t

/-- O47 (R119, R145, R147, R156, R158, R167, R172, R173, R174, R175, R176, R196). For the oldest job in WRITING,
page numbers distinct (JobsSound): a block it is given joins its list and its page's, lowers its reservation
while above 0, and its first 256-byte program is presented. A program DONE is followed by the next of the
block's part of the image; after the last the blocks done rise by one and a block is asked for, or after the
last block the job is COMMITTING with its page commit task on the list, and the writer turns to the next job.
A TIMEOUT makes the block BAD and out of the list; with relocations below 2 they rise by one and a block is
asked for, else the job fails with WRITE_FAILED. A DEVICE_FAULT fails it, and so does STORE_FULL. A page
commit DONE makes the page STORED, the lesson's count one more, ends the job and posts SAVE_DONE and
CATALOGUE_CHANGED; TIMEOUT makes the page BAD and leaves its blocks; DEVICE_FAULT makes it RETIRED or EMPTY by
whether a program was granted. A failed job's page is else EMPTY and its blocks DIRTY; an ended job gives back
its reservation and buffer, leaves the list, a PENDING job may render, the requester learns it and the hold
follows. The presence byte before CATALOGUE_CHANGED's page is the model's choice of log 16. -/
def Obligations.SaveWriterProgramsCommitsOrFails : Prop :=
  ∀ (before after : List Job) (j : Job) (s : State), s.sre.jobs = before ++ j :: after →
    (s.sre.jobs.map Job.page).Nodup →
    let c := s.cat
    let put (k : Job) (v : State) : State := { v with sre := { v.sre with jobs := before ++ k :: after } }
    let paged (x : Page) (v : State) : State := { v with cat := { v.cat with pages := v.cat.pages.setIfInBounds j.page x } }
    let program (k : Job) (v : State) : State :=
      let g := k.blocks.getD k.done 0
      let from' := 251658240 + k.buffer.getD 0 * 3145728 + 65536 * k.done + 256 * k.nextPage
      present .save { dev := if g < 4096 then .d0 else .d1, kind := .program (memReadRun v.mem from' 256),
                      addr := g % 4096 * 65536 + 256 * k.nextPage } v
    let ended (v : State) : State := kickRender { v with
      cat := { v.cat with reserved := v.cat.reserved.map (· - j.remaining) }
      sre := { v.sre with jobs := before ++ after } }
    let failed (reason : Nat) (v : State) : State := updateHold (post j.requester
      { kind := .saveFailed, contents := u8 j.lesson ++ u16 j.page ++ u8 reason } (ended v))
    let dropped (x : Page) (blocks : List Nat) (v : State) : State := (paged x v).setBlocks blocks .dirty
    let turns (fuel : Nat) (v o : State) : Prop :=
      ((∃ i ∈ v.sre.jobs, i.state = .writing) → o = serve fuel (allocate v)) ∧
      ((∀ i ∈ v.sre.jobs, i.state ≠ .writing) → o = v)
    (j.state = .writing → (∀ i ∈ before, i.state ≠ .writing) →
      (∀ fuel g,
        let k : Job := { j with blocks := j.blocks ++ [g], nextPage := 0, remaining := j.remaining - 1 }
        serve (fuel + 1) (.block g, s) = program k (put k (paged { s.page j.page with blocks := j.blocks ++ [g] }
          { s with cat := { c with reserved := c.reserved.map (· - if 0 < j.remaining then 1 else 0) } }))) ∧
      (∀ fuel, serve (fuel + 1) (.later, s) = s) ∧
      (∀ fuel, turns fuel (failed 1 (dropped {} j.blocks s)) (serve (fuel + 1) (.full, s))) ∧
      turns serveFuel (failed 2 (dropped {} j.blocks s)) (saveResult .deviceFault s) ∧
      (∀ bytes : List Byte,
        let programs := min 256 ((j.mode.imageBytes - 65536 * j.done) / 256)
        (j.nextPage + 1 < programs →
          let k : Job := { j with nextPage := j.nextPage + 1 }
          saveResult (.done bytes) s = program k (put k s)) ∧
        (programs ≤ j.nextPage + 1 → j.done + 1 < j.mode.blockCount →
          saveResult (.done bytes) s = serve serveFuel (allocate (put { j with done := j.done + 1 } s))) ∧
        (programs ≤ j.nextPage + 1 → j.mode.blockCount ≤ j.done + 1 →
          let v := put { j with done := j.done + 1, state := .committing } { s with cat := { c with
            tasks := c.tasks ++ [{ kind := .pageCommit j.page, stage := .body, granted := false }] } }
          turns serveFuel
            (if c.tasks = [] then present .writer
              { dev := .d0, kind := .program (bodyProgram (pageBody j.page (s.page j.page))), addr := (64 + j.page) * 4096 } v
            else v) (saveResult (.done bytes) s))) ∧
      (let left := j.blocks.take j.done
       let v := s.setBlock (j.blocks.getD j.done 0) (some .bad)
       (j.relocations < 2 → saveResult .timeout s = serve serveFuel (allocate
         (put { j with blocks := left, relocations := j.relocations + 1, nextPage := 0 }
           (paged { s.page j.page with blocks := left } v)))) ∧
       (2 ≤ j.relocations → turns serveFuel (failed 0 (dropped {} left v)) (saveResult .timeout s)))) ∧
    ∀ (granted : Bool) (bytes : List Byte),
      let g := s.page j.page
      let v := ended { paged { g with state := .stored } s with cat := { (paged { g with state := .stored } s).cat with
        lessons := c.lessons.setIfInBounds j.lesson { s.lesson j.lesson with count := (s.lesson j.lesson).count + 1 } } }
      let shown := (List.range 64).countP fun i => decide ((v.lesson i).state = .live ∨ (v.lesson i).state = .rewriting)
      let stored := (List.range 1024).countP fun i => decide ((v.page i).state = .stored)
      commitEnds j.page granted (.done bytes) s = updateHold (postOthers j.requester
        { kind := .catalogueChanged
          contents := u8 shown ++ u16 stored ++ u8 j.lesson ++ 1 :: u16 j.page ++ u8 (portNumber j.requester) }
        (post j.requester { kind := .saveDone, contents := u16 j.page ++ u8 j.lesson ++ u16 j.seq } v)) ∧
      commitEnds j.page granted .timeout s = failed 0 (paged { g with state := .bad } s) ∧
      commitEnds j.page granted .deviceFault s =
        failed 2 (dropped (if granted then { g with state := .retired } else {}) j.blocks s)

/-- O48 (R19, R52, R67, R92, R93, R119, R148, R178, R179, R180, R181, R196). A piece that ends with DONE is
decoded into the LOADING slot, and before the last the next piece is presented: up to 4,096 bytes at its place
in the page's block list. The last completes the recall: the slot is READY with a new publish sequence and
carries PAGE, which has left the slot it was on; the PAGE view is the whole new page at zoom 100; with show
YES the display is PAGE; DISPLAY_CHANGED and VIEW_CHANGED of cause RECALL (0x10) go to all ports, RECALL_DONE
with page, slot and whether the page is shown to the requester; the pin is released, no recall is left and the
hold follows. A DEVICE_FAULT, or a device it waits for that becomes FAULTED, ends it: the slot FREE, its read
withdrawn, the pin released, RECALL_FAILED to the requester; PAGE holder, display and view stay. An unpin
lowers the count, and the last of a RETIRING page with mark DONE makes it RETIRED and its blocks DIRTY. That
the page counts as shown where, after the event, the display mode is PAGE or is SPLIT with the reference PAGE
is deduced (log 32); that DISPLAY_CHANGED joins a queue before VIEW_CHANGED is the model's choice (log 45). -/
def Obligations.RecallReadsPublishesOrFails : Prop :=
  (∀ (n : Nat) (s : State), n < 1024 →
    let g := s.page n
    let becomes (x : Page) : State := { s with cat := { s.cat with pages := s.cat.pages.setIfInBounds n x } }
    let last : Prop := g.state = .retiring ∧ g.mark = .done ∧ g.pins ≤ 1
    (last → unpinPage n s = (becomes { g with state := .retired, pins := 0 }).setBlocks g.blocks .dirty) ∧
    (¬ last → unpinPage n s = becomes { g with pins := g.pins - 1 })) ∧
  ∀ (r : Recall) (s : State), s.sre.recalling = some r →
    let pieces := match r.mode with
      | .text => 254
      | .photo => 760
    let k := r.next + 1
    let block := r.blocks.getD (k / 16) 0
    let gone : State := (withdraw .recallReader s).setSlot r.slot {}
    let finish (v : State) : State := updateHold { v with sre := { v.sre with recalling := none } }
    let failed := finish (post r.requester { kind := .recallFailed, contents := u16 r.page ++ [0] } (unpinPage r.page gone))
    recallResult .deviceFault s = failed ∧
    (∀ d : DevId, ((∃ g ∈ r.blocks.drop (r.next / 16), (if g < 4096 then DevId.d0 else .d1) = d) →
        failRecallFor d s = failed) ∧
      ((∀ g ∈ r.blocks.drop (r.next / 16), (if g < 4096 then DevId.d0 else .d1) ≠ d) → failRecallFor d s = s)) ∧
    ∀ bytes : List Byte,
      let v : State := { s with
        mem := memWriteAll s.mem (decodePiece r.mode (r.slot * 25165824) (4096 * r.next) bytes) }
      (k < pieces → recallResult (.done bytes) s = present .recallReader
        { dev := if block < 4096 then .d0 else .d1, kind := .read (min 4096 (r.mode.imageBytes - 4096 * k)),
          addr := block % 4096 * 65536 + 4096 * (k % 16) }
        { v with sre := { v.sre with recalling := some { r with next := k } } }) ∧
      (pieces ≤ k →
        let a : State := { v with fst := advanceCounter v.fst }
        let b := placeHolder .page r.slot (leaveHolder .page
          (a.setSlot r.slot { a.slot r.slot with state := .ready, seq := some a.fst.counter }))
        let d : State := { b with
          vwc := { b.vwc with
            page := { zt := 100, zc := 100, qx := r.mode.kind.width / 2, qy := r.mode.kind.height / 2 }, geom := some r.mode }
          disp := if r.display then { mode := .page, ref := none } else b.disp }
        let shown : Bool := decide (d.disp.mode = .page ∨ (d.disp.mode = .split ∧ d.disp.ref = some .page))
        recallResult (.done bytes) s = finish (post r.requester
          { kind := .recallDone, contents := u16 r.page ++ u8 r.slot ++ flagByte shown }
          (unpinPage r.page (postAll (viewNotice [0x10] d) (postAll (displayNotice [0x10] d) d)))))

/-- O49 (R119, R169, R170, R171, R178, R184). WorkSound says of a state: there are at most four save jobs, at most
two of them PENDING or RENDERING; the idle hold is set exactly while a save job or a recall exists; and while
one exists the part is not in DOZE. Every step from a state with this property, over every command and with
every request that the command lets a port take, gives a state with it. -/
def Obligations.StoreWorkKeepsThePartAwake : Prop :=
  ∀ s t : State, WorkSound s → Steps s t → WorkSound t

/-- O50 (R185, R186, R187, R188, R192, R193, R196). The first byte of a transaction says which it is: 0x00 POLL,
0x01 SEND_REQUEST, 0x02 FETCH_ANSWER, any other value an unknown type. In every transaction the port first
shifts out the link status byte as it stands: request space, answer ready, notice pending, port busy. POLL
shifts out 0x00 after it and changes nothing else; an unknown type does the same and, unless it ends after its
first byte, counts a discarded frame, up to 255. FETCH_ANSWER shifts out the oldest answer, or the empty frame
where there is none or the port is busy, and 0x00 after it; an answer shifted out whole leaves the queue, and
where no request waits nothing else changes; cut short it stays. A SEND_REQUEST that is cut short, has a
length above 66, or comes to a busy port or a full request queue is counted and leaves no other trace. A
transaction given in two parts does what the whole does; one that a reset has cut off shifts out 0x00 for what
is left and does nothing more. The model's choices: transactions as commands, each a stretch that may not end,
their output a record of the state (log 14); an unknown type that ends after its first byte counts nothing
(log 15); a command of another kind than the transaction in progress changes nothing (log 1); an
UNKNOWN_TRANSACTION_TYPE with a type byte that is known is that transaction, a SEND_REQUEST with no byte of a
frame (log 43). -/
def Obligations.PortTransactionsReadFetchAndDiscard : Prop :=
  (∀ (p : PortId) (type : Byte) (bytes : List Byte) (ends : Bool),
    let c := transactionCommand p type bytes ends
    (type = 0 → c = .poll p ⟨bytes.length, ends⟩) ∧ (type = 1 → c = .sendRequest p ⟨bytes, ends⟩) ∧
    (type = 2 → c = .fetchAnswer p ⟨bytes.length, ends⟩) ∧
    (2 < type.toNat → c = .unknownTransactionType p type ⟨bytes.length, ends⟩) ∧
    c.wellFormed = true ∧ transactionType? c = some type) ∧
  (∀ (p : PortId) (x : Stretch Nat) (s : State),
    exec (.unknownTransactionType p 0 x) s = exec (.poll p x) s ∧
    exec (.unknownTransactionType p 2 x) s = exec (.fetchAnswer p x) s ∧
    (x.part = 0 → exec (.unknownTransactionType p 1 x) s = exec (.sendRequest p ⟨[], x.ends⟩) s) ∧
    ((s.port p).transfer = none → x.ends = true → exec (.unknownTransactionType p 1 x) s =
      .next (countDiscard p (setOut p (linkStatus (s.port p) :: List.replicate x.part 0) s)))) ∧
  ∀ (p : PortId) (extra : Nat) (type : Byte) (bytes : List Byte) (s : State),
    let q := s.port p
    let space := decide (q.requests.length < 4 ∧ q.busy = false)
    let status : Byte := BitVec.ofNat 8 ((if space then 1 else 0) + (if q.answers = [] then 0 else 2) +
      (if q.notices = [] then 0 else 4) + (if q.busy then 8 else 0))
    let out (l : List Byte) : State := match p with
      | .cp0 => { s with out0 := l }
      | .cp1 => { s with out1 := l }
      | .cp2 => { s with out2 := l }
    let plain (n : Nat) : State := out (status :: List.replicate n 0)
    let counted (t : State) : State := t.modPort p fun x => { x with discarded := min 255 (x.discarded + 1) }
    let fetched (l : List Byte) : State := out (status :: (l ++ List.replicate extra 0).take extra)
    (q.transfer = none →
      exec (.poll p ⟨extra, true⟩) s = .next (plain extra) ∧
      (2 < type.toNat → exec (.unknownTransactionType p type ⟨extra, true⟩) s =
        .next (if extra = 0 then plain 0 else counted (plain extra))) ∧
      ((q.answers = [] ∨ q.busy = true) → exec (.fetchAnswer p ⟨extra, true⟩) s = .next (fetched [0, 0, 0, 0])) ∧
      (∀ a rest, q.answers = a :: rest → q.busy = false →
        let whole := BitVec.ofNat 8 a.status.value :: a.code :: (u16 a.data.length ++ a.data)
        (extra < whole.length → exec (.fetchAnswer p ⟨extra, true⟩) s = .next (fetched whole)) ∧
        (whole.length ≤ extra → q.requests = [] →
          exec (.fetchAnswer p ⟨extra, true⟩) s = .next ((fetched whole).modPort p fun x => { x with answers := rest }))) ∧
      ((∀ c n l, bytes = c :: n :: l → 66 < n.toNat ∨ l.length < n.toNat) →
        exec (.sendRequest p ⟨bytes, true⟩) s = .next (counted (plain bytes.length))) ∧
      (space = false → exec (.sendRequest p ⟨bytes, true⟩) s = .next (counted (plain bytes.length))) ∧
      ∀ (m : Nat) (more : List Byte) (ends : Bool),
        (∃ u, exec (.poll p ⟨extra, false⟩) s = .next u ∧ exec (.poll p ⟨m, ends⟩) u = exec (.poll p ⟨extra + m, ends⟩) s) ∧
        (2 < type.toNat → ∃ u, exec (.unknownTransactionType p type ⟨extra, false⟩) s = .next u ∧
          exec (.unknownTransactionType p type ⟨m, ends⟩) u = exec (.unknownTransactionType p type ⟨extra + m, ends⟩) s) ∧
        (∃ u, exec (.sendRequest p ⟨bytes, false⟩) s = .next u ∧
          exec (.sendRequest p ⟨more, ends⟩) u = exec (.sendRequest p ⟨bytes ++ more, ends⟩) s) ∧
        ((∀ a rest, q.answers = a :: rest → q.busy = true ∨ extra < 4 + a.data.length) →
          ∃ u, exec (.fetchAnswer p ⟨extra, false⟩) s = .next u ∧
            exec (.fetchAnswer p ⟨m, ends⟩) u = exec (.fetchAnswer p ⟨extra + m, ends⟩) s)) ∧
    ∀ (t : Transaction) (ends : Bool), q.transfer = some t →
      (t.kind ≠ .poll → exec (.poll p ⟨extra, ends⟩) s = .next s) ∧
      (t.kind ≠ .unknown → 2 < type.toNat → exec (.unknownTransactionType p type ⟨extra, ends⟩) s = .next s) ∧
      (t.kind ≠ .fetch → exec (.fetchAnswer p ⟨extra, ends⟩) s = .next s) ∧
      (t.kind ≠ .send → exec (.sendRequest p ⟨bytes, ends⟩) s = .next s) ∧
      (t.cut = true → t.left = [] → t.held = false →
        let zeros (n : Nat) (l : List Byte) : Result := .next ((out (s.out p ++ List.replicate n 0)).modPort p fun x =>
          { x with transfer := if ends then none else some { t with received := t.received ++ l, count := t.count + n } })
        (t.kind = .poll → exec (.poll p ⟨extra, ends⟩) s = zeros extra []) ∧
        (t.kind = .unknown → 2 < type.toNat → exec (.unknownTransactionType p type ⟨extra, ends⟩) s = zeros extra []) ∧
        (t.kind = .fetch → exec (.fetchAnswer p ⟨extra, ends⟩) s = zeros extra []) ∧
        (t.kind = .send → exec (.sendRequest p ⟨bytes, ends⟩) s = zeros bytes.length bytes))

/-- O51 (R186, R187, R196). For every well-formed request other than BAD_REQUEST, at every port and with every
value of its parameters and every set of optional fields: the parameters of its frame, as R196 lays them out,
are at most 66 bytes, so that the length byte is their count, and a port that takes the frame reads exactly
that request from it. -/
def Obligations.RequestFramesReadBack : Prop :=
  ∀ (i : Instr) (p : PortId) (f : Frame), i.wellFormed = true → frameOf i = some (p, f) →
    (∀ code params, i ≠ .badRequest p code params) → decodeFrame p f = i ∧ f.params.length ≤ 66

/-- O52 (R185, R186, R187). For every well-formed request, BAD_REQUEST among them, and every port with no
transaction in progress: a whole SEND_REQUEST whose bytes are the code, the length and the parameters of its
frame, with any bytes after them, shifts out the link status and zeros and then does exactly what the
request's own command does, whether the port takes the frame at once, queues it or discards it. At a port that
may not take it, but whose queue has room and which is not busy, both place the frame at the end of the queue
and change nothing else but what is shifted out. That a request is a command of its own beside the transaction
that brings it is the model's choice of log 3, what a transaction shifts out a record of the state that of log
14. -/
def Obligations.SentFramesRunTheirRequests : Prop :=
  ∀ (i : Instr) (p : PortId) (f : Frame) (tail : List Byte) (s : State), i.wellFormed = true →
    frameOf i = some (p, f) → (s.port p).transfer = none →
    let bytes := f.code :: BitVec.ofNat 8 f.params.length :: (f.params ++ tail)
    let u := setOut p (linkStatus (s.port p) :: List.replicate bytes.length 0) s
    exec (.sendRequest p ⟨bytes, true⟩) s = exec i u ∧
    (((s.port p).direct ≠ none ∨ 4 ≤ (s.port p).answers.length) → (s.port p).requests.length < 4 →
      (s.port p).busy = false →
      exec (.sendRequest p ⟨bytes, true⟩) s = .next (u.modPort p fun q => { q with requests := q.requests ++ [f] }) ∧
      exec i s = .next (s.modPort p fun q => { q with requests := q.requests ++ [f] }))

/-- O53 (R187, R188, R189, R190, R191, R195, R196). At a port that takes requests. STATUS answers the 22 bytes of
R196, with the tap-ready input as it stands then, a free value (log 10), and clears the port's lost-notice
flag after its value has gone into the answer. NEXT_NOTICE answers NONE with an empty queue; else it removes
the oldest notice and answers OK with the number left, the kind, the length and the contents.
SET_ATTENTION_MARK takes the mark clamped to 15 and answers it. A frame of no known code, or whose length does
not fit its code, is answered BAD_REQUEST with the code received and no data. Nothing else changes but what
taking a request does. Placing an answer adds it at the end of its port's answer queue. A posted notice of a
coalescing kind that is queued already replaces the queued one in its place; any other goes to the end, and
where 16 are queued the oldest leaves and the lost-notice flag is set. `post` does so at one port, `postAll`
at the three, `postOthers` at the two others, and nothing else changes. -/
def Obligations.PortRequestsReportAndClear : Prop :=
  (∀ (n : Notice) (s : State) (p : PortId) (status : Status) (code : Byte) (data : List Byte),
    let merges (q : Port) : Prop :=
      n.kind ∈ [NoticeKind.viewChanged, .enhanceChanged, .focusState, .catalogueChanged] ∧ ∃ m ∈ q.notices, m.kind = n.kind
    (∀ q : Port,
      (merges q → placeNotice n q = { q with notices := q.notices.map fun m => if m.kind = n.kind then n else m }) ∧
      (¬ merges q → q.notices.length < 16 → placeNotice n q = { q with notices := q.notices ++ [n] }) ∧
      (¬ merges q → 16 ≤ q.notices.length → placeNotice n q =
        { q with notices := q.notices.drop 1 ++ [n], lost := true })) ∧
    post p n s = s.setPort p (placeNotice n (s.port p)) ∧
    postAll n s = { s with cp0 := placeNotice n s.cp0, cp1 := placeNotice n s.cp1, cp2 := placeNotice n s.cp2 } ∧
    postOthers p n s = { s with
      cp0 := if p = .cp0 then s.cp0 else placeNotice n s.cp0
      cp1 := if p = .cp1 then s.cp1 else placeNotice n s.cp1
      cp2 := if p = .cp2 then s.cp2 else placeNotice n s.cp2 } ∧
    answer p status code data s = s.setPort p { s.port p with
      answers := (s.port p).answers ++ [{ status := status, code := code, data := data }] }) ∧
  ∀ (p : PortId) (mark code : Byte) (params : List Byte) (s : State), Serves p s →
    let r := requestTaken p s
    let q := r.port p
    let ready := Config.tapReadyLevel r.choices
    let v : State := { r with inputs := { r.inputs with tapReady := ready }, choices := r.choices + 1 }
    let focus : Nat := match r.foc.state with
      | .search x => if x.phase = .coarse then 0 else 1
      | .locked _ => 2
      | .parked => 3
      | .held => 4
      | .fault => 5
    exec (.status p) s = .next (answer p .ok 0x01
      (u8 r.sin.state.code ++ flagByte r.inputs.projectorPresent ++ flagByte ready ++ u8 r.disp.mode.code ++
        flagByte r.liu.doze ++ u16 r.liu.duty ++ flagByte r.liu.latch ++ flagByte r.inputs.lampFault ++
        u8 r.foc.mode.code ++ u8 focus ++ u8 r.cat.store.code ++ u8 (r.device .d0).state.code ++
        u8 (r.device .d1).state.code ++ u16 r.sin.damaged ++ u16 r.sin.concealed ++ u16 r.skipped ++ u8 q.discarded ++
        flagByte q.lost) (v.modPort p fun x => { x with lost := false })) ∧
    (q.notices = [] → exec (.nextNotice p) s = .next (answer p .none 0x02 [] r)) ∧
    (∀ n rest, q.notices = n :: rest → exec (.nextNotice p) s = .next (answer p .ok 0x02
      (u8 rest.length ++ u8 n.kind.value ++ u8 n.contents.length ++ n.contents)
      (r.modPort p fun x => { x with notices := rest }))) ∧
    exec (.setAttentionMark p mark) s = .next (answer p .ok 0x03 (u8 (min 15 mark.toNat))
      (r.modPort p fun x => { x with mark := min 15 mark.toNat })) ∧
    (params.length ≤ 66 → decodeRequest? p code params = none →
      exec (.badRequest p code params) s = .next (answer p .badRequest code [] r))

/-- O54 (R138, R148, R183, R187, R192, R193). PORT_RESET leaves the port with empty queues, its context at the
port-reset values and PORT_BUSY set; a direct read of the port releases its pin and is withdrawn, or its
result discarded; the other ports, the slots, the display, the jobs, the recall, the idle timer and frame
memory keep their values. PORT_RESET_RELEASE of an active input starts the 2 ms interval, and of an inactive
one does nothing. PORT_BUSY_END of a running interval clears PORT_BUSY 2 ms after the interval began, and
where no interval runs does nothing; nothing waits then, since a busy port discards what it is sent. A
transaction in progress at the port is cut off. A client that withdraws (`withdraw`) has nothing waiting and
no result on its way any more, its operation on the bus runs on with its result no longer wanted, and a device
still at work for it has no client to inform; nothing else changes. The model's choices: PORT_RESET is applied
whatever the level of the input was (log 11); a release of an inactive input and a busy end with no interval
running change nothing (log 1); the clock goes to the end of the interval, or stays where it is later (log 4). -/
def Obligations.PortResetClearsOnePort : Prop :=
  (∀ (c : Client) (s : State),
    let q := s.ssq
    let dropped (x : Device) : Device := match x.state with
      | .busy b => if b.client = some c then { x with state := .busy { b with client := none } } else x
      | _ => x
    withdraw c s = { s with ssq := { q with
      waiting := q.waiting.filter fun w => !decide (w.client = c)
      results := q.results.filter fun r => !decide (r.1 = c)
      bus := (match q.bus with
        | some x => some { x with wanted := x.wanted && !decide (x.user = .client c) }
        | none => none)
      d0 := dropped q.d0
      d1 := dropped q.d1 } }) ∧
  ∀ (p : PortId) (s : State),
    (let cleared : Port :=
      { requests := [], answers := [], notices := [], lost := false, discarded := 0, mark := 0, lesson := none, tone := 0,
        direct := none, busy := true, busyFrom := none, resetInput := true,
        transfer := (s.port p).transfer.map fun t => { t with left := [], held := false, cut := true } }
     let u : State := match (s.port p).direct with
      | none => s
      | some d => unpinPage d.page (withdraw (.direct p) s)
     exec (.portReset p) s = .next (close (u.setPort p cleared)) ∧ u.fst = s.fst ∧ u.disp = s.disp ∧ u.sre = s.sre ∧
     u.liu = s.liu ∧ u.mem = s.mem ∧ u.foc = s.foc ∧ (∀ q, u.port q = s.port q) ∧
     (∀ w, w ∈ u.ssq.waiting → w.client = .direct p → (s.port p).direct = none)) ∧
    ((s.port p).resetInput = true → exec (.portResetRelease p) s =
      .next (s.modPort p fun q => { q with resetInput := false, busy := true, busyFrom := some s.now })) ∧
    ((s.port p).resetInput = false → exec (.portResetRelease p) s = .next s) ∧
    ((s.port p).busyFrom = none → exec (.portBusyEnd p) s = .next s) ∧
    ∀ m, (s.port p).busyFrom = some m → (s.port p).requests = [] → exec (.portBusyEnd p) s =
      .next (State.modPort { s with now := max s.now (m + 2000) } p fun q => { q with busy := false, busyFrom := none })

/-- O55 (R9, R22, R37, R55, R74, R97, R113, R125, R142, R168, R192, R194). POWER_ON_RESET puts every block at the
power-on values its chapter gives, whatever the state before; RESET_DEVICE, at a port that takes requests,
does the same but keeps the paper floor, the motion delta, the enhancement record and tone banks, the output
modes, the refocus threshold, the lamp level, the timeouts and thresholds, the flash profile and the last
mount result, sets the latch by the input, and begins a mount by itself where the store was not UNMOUNTED.
Every port is empty but for one DEVICE_RESET notice, and busy, its transaction in progress cut off.
State.reset stands at the power-on values. Frame memory keeps its contents. The model's choices: the values to
which the chapters give no number (the expected line, the port granted last and the like) (log 25); the inputs
keep their levels, low at State.reset (log 10); no busy interval runs while a reset input is active (log 29). -/
def Obligations.ResetsLeaveTheirValues : Prop :=
  let blocks (t : State) : Prop :=
    t.sin = { state := .waitFrame, expected := 0, timer := some t.now, damaged := 0, concealed := 0, lastFrame := none } ∧
    (∀ n, t.slot n = {}) ∧ t.fst.counter = 0 ∧
    t.sst.acc = none ∧ t.sst.prev = none ∧ t.sst.map.length = 768 ∧ (∀ w ∈ t.sst.map, w = 255) ∧ t.sst.motion = none ∧
    t.sst.reseed = true ∧ t.sst.focus = none ∧
    t.vwc = { live := { zt := 100, zc := 100, qx := 2048, qy := 1536 }, page := { zt := 100, zc := 100, qx := 0, qy := 0 },
              geom := none, glide := 10 } ∧
    t.ren.swap = false ∧ t.opp.pending = none ∧ t.opp.ctx = {} ∧ t.opt.pending = none ∧ t.opt.ctx = {} ∧
    t.disp = { mode := .live, ref := none } ∧ t.skipped = 0 ∧
    t.foc.mode = .auto ∧ (∃ x, t.foc.state = .search x ∧ x.phase = .coarse ∧ x.up = true ∧ x.steps = 0 ∧
      x.bestMeasure = none ∧ x.bestPos = 512 ∧ x.settle = 0 ∧ x.width = 4096) ∧ t.foc.lensPos = 512 ∧ t.foc.link = none ∧
    t.foc.wanted = none ∧ t.foc.addr = 0x0C ∧ t.foc.owed = true ∧ t.foc.last = none ∧
    t.liu.doze = false ∧ t.liu.hold = false ∧ t.liu.minutes = 0 ∧ t.liu.minuteFrom = t.now ∧
    (∀ d, (t.device d).refId = none ∧ (t.device d).state = .busy
      { kind := .carried, client := none, addr := 0, start := t.now, deadline := t.now + t.ssq.profile.blockTimeout * 1000,
        late := none, nextPoll := some t.now, recheck := false }) ∧
    t.ssq.bus = none ∧ t.ssq.due = [] ∧ t.ssq.lastDirect = .cp2 ∧ t.ssq.results = [] ∧
    (∀ n, t.lesson n = {}) ∧ (∀ n, t.page n = {}) ∧ (∀ g, t.block g = none) ∧ t.cat.tasks = [] ∧ t.cat.cursor = none ∧
    t.cat.reserved = none ∧ t.cat.saveSeq = none ∧ t.cat.reclaim = none ∧ t.sre = { jobs := [], recalling := none }
  let ports (n : Notice) (s t : State) : Prop := ∀ p, t.port p =
    { requests := [], answers := [], notices := [n], lost := false, discarded := 0, mark := 0, lesson := none, tone := 0,
      direct := none, busy := true, busyFrom := if (s.port p).resetInput then none else some t.now,
      resetInput := (s.port p).resetInput,
      transfer := (s.port p).transfer.map fun x => { x with left := [], held := false, cut := true } }
  let first (t : State) : Prop := blocks t ∧ t.sst.floor = 64 ∧ t.sst.delta = 6 ∧
    t.ren.enh = { flatten := true, sharpen := 8, core := 2, threshold := 128 } ∧ t.ren.active = t.ren.staging ∧
    (∀ i < 256, t.ren.active[i]? = some (BitVec.ofNat 8 i)) ∧ t.opp.applied = .p1080 ∧ t.opt.applied = .off ∧
    t.foc.threshold = 96 ∧ t.liu.level = 0 ∧ t.liu.duty = 0 ∧ t.liu.latch = false ∧ t.liu.timeout = 30 ∧
    t.liu.wakeThreshold = 24 ∧ t.ssq.profile = Profile.reset ∧ t.ssq.waiting = [] ∧ t.cat.store = .unmounted ∧
    t.cat.lastMount = .none ∧ t.cat.mount = none
  (first State.reset ∧ ports { kind := .deviceReset, contents := [0x10] } State.reset State.reset ∧
    State.reset.pending = [] ∧ State.reset.mem = []) ∧
  (∀ s : State, ∃ t, exec .powerOnReset s = .next t ∧ first t ∧ ports { kind := .deviceReset, contents := [0x10] } s t ∧
    t.now = s.now ∧ t.inputs = s.inputs ∧ t.mem = s.mem) ∧
  ∀ (p : PortId) (s : State), Serves p s →
    let r := requestTaken p s
    ∃ t, exec (.resetDevice p) s = .next t ∧ blocks t ∧
      ports { kind := .deviceReset, contents := [0x11, BitVec.ofNat 8 (portNumber p)] } r t ∧
      t.now = r.now ∧ t.inputs = r.inputs ∧ t.mem = r.mem ∧ t.sst.floor = r.sst.floor ∧ t.sst.delta = r.sst.delta ∧
      t.ren = { r.ren with swap := false } ∧ t.opp.applied = r.opp.applied ∧ t.opt.applied = r.opt.applied ∧
      t.foc.threshold = r.foc.threshold ∧ t.liu.level = r.liu.level ∧ t.liu.timeout = r.liu.timeout ∧
      t.liu.wakeThreshold = r.liu.wakeThreshold ∧ t.liu.latch = r.inputs.lampFault ∧
      t.liu.duty = (if r.inputs.lampFault then 0 else r.liu.level) ∧ t.ssq.profile = r.ssq.profile ∧
      t.cat.lastMount = r.cat.lastMount ∧
      (r.cat.store = .unmounted → t.cat.store = .unmounted ∧ t.cat.mount = none ∧ t.ssq.waiting = []) ∧
      (r.cat.store ≠ .unmounted → t.cat.store = .mounting ∧
        t.cat.mount = some { stage := .probe .d0, requester := none } ∧
        t.ssq.waiting = [{ client := .mount, op := { dev := .d0, kind := .probe, addr := 0 } }])

/-- O56 (R182, R186, R187, R188, R189, R191, R192, R193). QueuesSound says of a state: each port has at most 4
requests waiting, at most 4 answers with the one a direct read still owes, at most 16 notices and no two of
one coalescing kind, an attention mark of at most 15, a tone pointer of at most 256, a discarded-frame counter
of at most 255, and is busy while its reset input is active or its busy interval runs; and frame memory has
its one canonical form. Every step from such a state, over every command, gives such a state. -/
def Obligations.QueuesAndMemoryStaySound : Prop :=
  ∀ s t : State, QueuesSound s → Steps s t → QueuesSound t

/-- O57 (R12, R30, R33, R38, R50, R68, R98, R110, R117, R118, R127, R153). SettingsSound says of a state: the
zooms of both views lie between 100 and 1600 and their centres inside the largest source, the glide rate is at
most 200; strength and core at most 31, the text threshold 1 to 254, both tone banks hold 256 entries; the
paper floor is 32 to 192 and the motion delta in its range; the lamp level and duty at most 1023, the timeout
and the minute count at most 240, the wake threshold 1 to 768; the lens position, every position sent, wanted
or listed at most 1023, the driver address 0x08 to 0x77, the refocus threshold 1 to 768; the three 16-bit
counters at most 65,535; the publish counter at most 4,294,967,295 and the save sequence counter, where it has
a value, 1 to 4,294,967,295; and the flash profile in its ranges: the divider, busy bit and polarity, poll
interval and timeouts, and for each command kind lane counts of 1, 2 or 4, a count of address bytes that the
kind accepts, and at most 15 dummy cycles. Every step from such a state, over every command, gives such a
state. -/
def Obligations.SettingsStayInRange : Prop :=
  ∀ s t : State, SettingsSound s → Steps s t → SettingsSound t

/-- O58 (R3, R10, R11, R13, R14, R15, R16, R17, R18, R19, R20, R21). SlotsSound says of a state: holders stand on
READY slots; FREEZE, PAGE and the two save holders stand on at most one slot each; a pipe's scan holder stands
on its frame's live slot or, with FREEZE or PAGE, on its reference slot; at most one slot is FILLING, only in
RECEIVING; one is LOADING exactly while a recall is in flight, that recall's; a READY slot is of SENSOR kind
or a held page; each save holder belongs to a job that has not rendered yet. From every state with SlotsSound
and CatalogueSound, over every command, the step answers a next state, which has SlotsSound. In every state
with SlotsSound at most eight slots are FILLING, LOADING or held, and the choice of R14 finds a slot. -/
def Obligations.SlotsStaySoundAndAChoiceExists : Prop :=
  (∀ s : State, SlotsSound s → CatalogueSound s → ∃ t, Steps s t ∧ SlotsSound t) ∧
  ∀ s : State, SlotsSound s → occupancy s ≤ 8 ∧ chooseSlot s ≠ none

/-- O59 (R138, R145, R146, R147, R149, R150, R154, R157, R158, R159, R169, R172). CatalogueSound says of a state:
a block listed by a WRITING, STORED or RETIRING page is an image block, once in its list, in no other such
list, and USED while the store is MOUNTED; a lesson's page count is the number of its STORED pages; the
reservation is the sum of what the jobs still need; each job has a WRITING page of its own with its block
list, and waits in PENDING only for a render or two taken buffers; each lesson with a task is REWRITING and
has one, each page with a retire task RETIRING; nothing belongs to an EMPTY or WIPED lesson; the block being
checked is UNKNOWN, the one being reclaimed DIRTY or ERASING; the reclaimer and the mount scanner have at most
one operation under way; outside MOUNTED no job, recall, read, task or reservation exists, and UNMOUNTED the
tables are clear. From every state with SlotsSound and CatalogueSound, every step, over every command, gives a
state with CatalogueSound. -/
def Obligations.CatalogueStaysSound : Prop :=
  ∀ s t : State, SlotsSound s → CatalogueSound s → Steps s t → CatalogueSound t

/-- O60 (R21, R119, R139, R149, R158, R169, R189, R194). State.reset has BusSound, WorkSound, QueuesSound,
SettingsSound, SlotsSound and CatalogueSound, the properties of which six statements say that every step keeps
them. -/
def Obligations.ResetStateIsSound : Prop :=
  BusSound State.reset ∧ WorkSound State.reset ∧ QueuesSound State.reset ∧ SettingsSound State.reset ∧
    SlotsSound State.reset ∧ CatalogueSound State.reset
end

