-- ==== Sys2Proof/Laws/Memory.lean ====
section
/-! SUPPORT. Frame memory: every write keeps the one form, a read after a write gives the bytes written, and every
other address reads as before. -/

namespace Sys2Proof.Machine

/-- The entries a run of bytes needs lie within the run. -/
theorem memCells_range (a : Nat) (bytes : List Byte) : ∀ c ∈ memCells a bytes, a ≤ c.1 ∧ c.1 < a + bytes.length := by
  induction bytes generalizing a with
  | nil => simp [memCells]
  | cons b rest ih =>
    intro c hc
    simp only [memCells] at hc
    split at hc
    · have := ih (a + 1) c hc
      simp only [List.length_cons]; omega
    · rcases List.mem_cons.1 hc with rfl | h
      · simp
      · have := ih (a + 1) c h
        simp only [List.length_cons]; omega

/-- No entry of a run's is a blank byte. -/
theorem memCells_not_blank (a : Nat) (bytes : List Byte) : ∀ c ∈ memCells a bytes, c.2 ≠ Config.blankByte := by
  induction bytes generalizing a with
  | nil => simp [memCells]
  | cons b rest ih =>
    intro c hc
    simp only [memCells] at hc
    split at hc
    · exact ih (a + 1) c hc
    · rcases List.mem_cons.1 hc with rfl | h
      · assumption
      · exact ih (a + 1) c h

/-- The entries of a run rise strictly. -/
theorem memCells_sorted (a : Nat) (bytes : List Byte) : (memCells a bytes).Pairwise (fun x y => x.1 < y.1) := by
  induction bytes generalizing a with
  | nil => simp [memCells]
  | cons b rest ih =>
    simp only [memCells]
    split
    · exact ih (a + 1)
    · refine List.pairwise_cons.2 ⟨fun c hc => ?_, ih (a + 1)⟩
      have := memCells_range (a + 1) rest c hc
      show a < c.1
      omega

/-- A write keeps the form of the memory. -/
theorem memWrite_wf (m : Memory) (a : Nat) (bytes : List Byte) (h : Memory.wf m) : Memory.wf (memWrite m a bytes) := by
  obtain ⟨hs, hb⟩ := h
  have hr := memCells_range a bytes
  refine ⟨?_, ?_⟩
  · unfold memWrite
    refine List.pairwise_append.2 ⟨List.pairwise_append.2 ⟨hs.filter _, memCells_sorted a bytes, ?_⟩, hs.filter _, ?_⟩
    · intro x hx y hy
      have h1 := hr y hy
      have h2 := of_decide_eq_true (List.mem_filter.1 hx).2
      omega
    · intro x hx y hy
      have h2 := of_decide_eq_true (List.mem_filter.1 hy).2
      rcases List.mem_append.1 hx with h | h
      · have h1 := of_decide_eq_true (List.mem_filter.1 h).2
        omega
      · have h1 := hr x h
        omega
  · intro c hc
    unfold memWrite at hc
    rcases List.mem_append.1 hc with h | h
    · rcases List.mem_append.1 h with h | h
      · exact hb c (List.mem_filter.1 h).1
      · exact memCells_not_blank a bytes c h
    · exact hb c (List.mem_filter.1 h).1

/-- Several writes keep the form of the memory. -/
theorem memWriteAll_wf (m : Memory) (runs : List (Nat × List Byte)) (h : Memory.wf m) :
    Memory.wf (memWriteAll m runs) := by
  induction runs generalizing m with
  | nil => exact h
  | cons r rest ih => exact ih _ (memWrite_wf m r.1 r.2 h)

/-- What an address holds, after entries none of which is at it. -/
theorem memRead_append_absent (l r : Memory) (x : Nat) (h : ∀ c ∈ l, c.1 ≠ x) : memRead (l ++ r) x = memRead r x := by
  induction l with
  | nil => rfl
  | cons c l ih =>
    have hc : c.1 ≠ x := h c (by simp)
    simp only [List.cons_append, memRead, if_neg hc]
    exact ih fun d hd => h d (by simp [hd])

/-- An address that no entry lists reads as blank. -/
theorem memRead_absent (l : Memory) (x : Nat) (h : ∀ c ∈ l, c.1 ≠ x) : memRead l x = Config.blankByte := by
  have := memRead_append_absent l [] x h
  simpa [memRead] using this

/-- What an address holds, before entries none of which is at it. -/
theorem memRead_append_left (l r : Memory) (x : Nat) (h : ∀ c ∈ r, c.1 ≠ x) : memRead (l ++ r) x = memRead l x := by
  induction l with
  | nil => simpa [memRead] using memRead_absent r x h
  | cons c l ih =>
    simp only [List.cons_append, memRead]
    split
    · rfl
    · exact ih

/-- Leaving out entries that are not at an address changes nothing there. -/
theorem memRead_filter (m : Memory) (p : Host.Cell → Bool) (x : Nat) (h : ∀ c ∈ m, c.1 = x → p c = true) :
    memRead (m.filter p) x = memRead m x := by
  induction m with
  | nil => rfl
  | cons c m ih =>
    have ih := ih fun d hd => h d (by simp [hd])
    by_cases hc : c.1 = x
    · have hp : p c = true := h c (by simp) hc
      simp [List.filter, hp, memRead, hc]
    · cases hp : p c <;> simp [List.filter, hp, memRead, hc, ih]

/-- The entries of a run read as its bytes. -/
theorem memCells_read (a : Nat) (bytes : List Byte) (x : Nat) :
    memRead (memCells a bytes) x = if a ≤ x then (bytes[x - a]?).getD Config.blankByte else Config.blankByte := by
  induction bytes generalizing a with
  | nil => simp [memCells, memRead]
  | cons b rest ih =>
    by_cases hx : x = a
    · subst hx
      have habs : memRead (memCells (x + 1) rest) x = Config.blankByte :=
        memRead_absent _ _ fun c hc => by have := memCells_range (x + 1) rest c hc; omega
      simp only [memCells]
      split
      · rename_i hb; simp [habs, hb]
      · simp [memRead]
    · have hstep : memRead (memCells a (b :: rest)) x = memRead (memCells (a + 1) rest) x := by
        simp only [memCells]
        split
        · rfl
        · simp [memRead, Ne.symm hx]
      rw [hstep, ih]
      by_cases h : a ≤ x
      · have h1 : a + 1 ≤ x := by omega
        have h2 : x - a = (x - (a + 1)) + 1 := by omega
        simp [h, h1, h2]
      · have h1 : ¬ a + 1 ≤ x := by omega
        simp [h, h1]

/-- What a write does to each address: the bytes written, and every other address as before. -/
theorem memWrite_read (m : Memory) (a : Nat) (bytes : List Byte) (x : Nat) :
    memRead (memWrite m a bytes) x =
      if a ≤ x ∧ x < a + bytes.length then (bytes[x - a]?).getD Config.blankByte else memRead m x := by
  unfold memWrite
  by_cases hlow : x < a
  · have h1 : ∀ c ∈ memCells a bytes, c.1 ≠ x := fun c hc => by have := memCells_range a bytes c hc; omega
    have h2 : ∀ c ∈ m.filter (fun c => decide (a + bytes.length ≤ c.1)), c.1 ≠ x := fun c hc => by
      have := of_decide_eq_true (List.mem_filter.1 hc).2; omega
    rw [memRead_append_left _ _ x h2, memRead_append_left _ _ x h1, memRead_filter]
    · simp [Nat.not_le.2 hlow]
    · intro c _ hc; simp [hc, hlow]
  · have h0 : ∀ c ∈ m.filter (fun c => decide (c.1 < a)), c.1 ≠ x := fun c hc => by
      have := of_decide_eq_true (List.mem_filter.1 hc).2; omega
    rw [List.append_assoc, memRead_append_absent _ _ x h0]
    by_cases hin : x < a + bytes.length
    · have h2 : ∀ c ∈ m.filter (fun c => decide (a + bytes.length ≤ c.1)), c.1 ≠ x := fun c hc => by
        have := of_decide_eq_true (List.mem_filter.1 hc).2; omega
      rw [memRead_append_left _ _ x h2, memCells_read]
      simp [Nat.not_lt.1 hlow, hin]
    · have h1 : ∀ c ∈ memCells a bytes, c.1 ≠ x := fun c hc => by have := memCells_range a bytes c hc; omega
      rw [memRead_append_absent _ _ x h1, memRead_filter]
      · simp [hin]
      · intro c _ hc; simp [hc, Nat.not_lt.1 hin]

end Sys2Proof.Machine
end

