-- ==== Sys2Proof/Laws/State.lean ====
section
/-! SUPPORT. What each update of State leaves as it is, one lemma for each field, and what it writes; later proofs cite
these and never unfold a record update. -/

namespace Sys2Proof.Machine

/-! ## Replacing a port -/

@[simp] theorem setPort_pending (s : State) (p : PortId) (x : Port) :
    (s.setPort p x).pending = s.pending := by cases p <;> rfl
@[simp] theorem setPort_now (s : State) (p : PortId) (x : Port) : (s.setPort p x).now = s.now := by cases p <;> rfl
@[simp] theorem setPort_choices (s : State) (p : PortId) (x : Port) :
    (s.setPort p x).choices = s.choices := by cases p <;> rfl
@[simp] theorem setPort_inputs (s : State) (p : PortId) (x : Port) :
    (s.setPort p x).inputs = s.inputs := by cases p <;> rfl
@[simp] theorem setPort_mem (s : State) (p : PortId) (x : Port) : (s.setPort p x).mem = s.mem := by cases p <;> rfl
@[simp] theorem setPort_sin (s : State) (p : PortId) (x : Port) : (s.setPort p x).sin = s.sin := by cases p <;> rfl
@[simp] theorem setPort_fst (s : State) (p : PortId) (x : Port) : (s.setPort p x).fst = s.fst := by cases p <;> rfl
@[simp] theorem setPort_sst (s : State) (p : PortId) (x : Port) : (s.setPort p x).sst = s.sst := by cases p <;> rfl
@[simp] theorem setPort_vwc (s : State) (p : PortId) (x : Port) : (s.setPort p x).vwc = s.vwc := by cases p <;> rfl
@[simp] theorem setPort_ren (s : State) (p : PortId) (x : Port) : (s.setPort p x).ren = s.ren := by cases p <;> rfl
@[simp] theorem setPort_opp (s : State) (p : PortId) (x : Port) : (s.setPort p x).opp = s.opp := by cases p <;> rfl
@[simp] theorem setPort_opt (s : State) (p : PortId) (x : Port) : (s.setPort p x).opt = s.opt := by cases p <;> rfl
@[simp] theorem setPort_disp (s : State) (p : PortId) (x : Port) : (s.setPort p x).disp = s.disp := by cases p <;> rfl
@[simp] theorem setPort_skipped (s : State) (p : PortId) (x : Port) :
    (s.setPort p x).skipped = s.skipped := by cases p <;> rfl
@[simp] theorem setPort_foc (s : State) (p : PortId) (x : Port) : (s.setPort p x).foc = s.foc := by cases p <;> rfl
@[simp] theorem setPort_liu (s : State) (p : PortId) (x : Port) : (s.setPort p x).liu = s.liu := by cases p <;> rfl
@[simp] theorem setPort_ssq (s : State) (p : PortId) (x : Port) : (s.setPort p x).ssq = s.ssq := by cases p <;> rfl
@[simp] theorem setPort_cat (s : State) (p : PortId) (x : Port) : (s.setPort p x).cat = s.cat := by cases p <;> rfl
@[simp] theorem setPort_sre (s : State) (p : PortId) (x : Port) : (s.setPort p x).sre = s.sre := by cases p <;> rfl
@[simp] theorem setPort_out0 (s : State) (p : PortId) (x : Port) : (s.setPort p x).out0 = s.out0 := by cases p <;> rfl
@[simp] theorem setPort_out1 (s : State) (p : PortId) (x : Port) : (s.setPort p x).out1 = s.out1 := by cases p <;> rfl
@[simp] theorem setPort_out2 (s : State) (p : PortId) (x : Port) : (s.setPort p x).out2 = s.out2 := by cases p <;> rfl

@[simp] theorem setPort_port_self (s : State) (p : PortId) (x : Port) : (s.setPort p x).port p = x := by
  cases p <;> rfl

@[simp] theorem setPort_port_other (s : State) (p q : PortId) (x : Port) (h : q ≠ p) :
    (s.setPort p x).port q = s.port q := by
  cases p <;> cases q <;> first | rfl | exact absurd rfl h

@[simp] theorem setPort_device (s : State) (p : PortId) (x : Port) (d : DevId) :
    (s.setPort p x).device d = s.device d := by cases p <;> rfl

@[simp] theorem setPort_self (s : State) (p : PortId) : s.setPort p (s.port p) = s := by cases p <;> rfl

@[simp] theorem setPort_setPort (s : State) (p : PortId) (x y : Port) :
    (s.setPort p x).setPort p y = s.setPort p y := by
  cases p <;> rfl

/-! ## Changing a port -/

@[simp] theorem modPort_pending (s : State) (p : PortId) (f : Port → Port) :
    (s.modPort p f).pending = s.pending := by cases p <;> rfl
@[simp] theorem modPort_now (s : State) (p : PortId) (f : Port → Port) :
    (s.modPort p f).now = s.now := by cases p <;> rfl
@[simp] theorem modPort_choices (s : State) (p : PortId) (f : Port → Port) :
    (s.modPort p f).choices = s.choices := by cases p <;> rfl
@[simp] theorem modPort_inputs (s : State) (p : PortId) (f : Port → Port) :
    (s.modPort p f).inputs = s.inputs := by cases p <;> rfl
@[simp] theorem modPort_mem (s : State) (p : PortId) (f : Port → Port) :
    (s.modPort p f).mem = s.mem := by cases p <;> rfl
@[simp] theorem modPort_sin (s : State) (p : PortId) (f : Port → Port) :
    (s.modPort p f).sin = s.sin := by cases p <;> rfl
@[simp] theorem modPort_fst (s : State) (p : PortId) (f : Port → Port) :
    (s.modPort p f).fst = s.fst := by cases p <;> rfl
@[simp] theorem modPort_sst (s : State) (p : PortId) (f : Port → Port) :
    (s.modPort p f).sst = s.sst := by cases p <;> rfl
@[simp] theorem modPort_vwc (s : State) (p : PortId) (f : Port → Port) :
    (s.modPort p f).vwc = s.vwc := by cases p <;> rfl
@[simp] theorem modPort_ren (s : State) (p : PortId) (f : Port → Port) :
    (s.modPort p f).ren = s.ren := by cases p <;> rfl
@[simp] theorem modPort_opp (s : State) (p : PortId) (f : Port → Port) :
    (s.modPort p f).opp = s.opp := by cases p <;> rfl
@[simp] theorem modPort_opt (s : State) (p : PortId) (f : Port → Port) :
    (s.modPort p f).opt = s.opt := by cases p <;> rfl
@[simp] theorem modPort_disp (s : State) (p : PortId) (f : Port → Port) :
    (s.modPort p f).disp = s.disp := by cases p <;> rfl
@[simp] theorem modPort_skipped (s : State) (p : PortId) (f : Port → Port) :
    (s.modPort p f).skipped = s.skipped := by cases p <;> rfl
@[simp] theorem modPort_foc (s : State) (p : PortId) (f : Port → Port) :
    (s.modPort p f).foc = s.foc := by cases p <;> rfl
@[simp] theorem modPort_liu (s : State) (p : PortId) (f : Port → Port) :
    (s.modPort p f).liu = s.liu := by cases p <;> rfl
@[simp] theorem modPort_ssq (s : State) (p : PortId) (f : Port → Port) :
    (s.modPort p f).ssq = s.ssq := by cases p <;> rfl
@[simp] theorem modPort_cat (s : State) (p : PortId) (f : Port → Port) :
    (s.modPort p f).cat = s.cat := by cases p <;> rfl
@[simp] theorem modPort_sre (s : State) (p : PortId) (f : Port → Port) :
    (s.modPort p f).sre = s.sre := by cases p <;> rfl
@[simp] theorem modPort_out0 (s : State) (p : PortId) (f : Port → Port) :
    (s.modPort p f).out0 = s.out0 := by cases p <;> rfl
@[simp] theorem modPort_out1 (s : State) (p : PortId) (f : Port → Port) :
    (s.modPort p f).out1 = s.out1 := by cases p <;> rfl
@[simp] theorem modPort_out2 (s : State) (p : PortId) (f : Port → Port) :
    (s.modPort p f).out2 = s.out2 := by cases p <;> rfl

@[simp] theorem modPort_port_self (s : State) (p : PortId) (f : Port → Port) :
    (s.modPort p f).port p = f (s.port p) := by simp [State.modPort]

@[simp] theorem modPort_port_other (s : State) (p q : PortId) (f : Port → Port) (h : q ≠ p) :
    (s.modPort p f).port q = s.port q := by simp [State.modPort, h]

/-- A port after a change of a port. -/
theorem modPort_port (s : State) (p q : PortId) (f : Port → Port) :
    (s.modPort p f).port q = if q = p then f (s.port q) else s.port q := by
  by_cases h : q = p
  · subst h; simp
  · simp [h]

@[simp] theorem modPort_device (s : State) (p : PortId) (f : Port → Port) (d : DevId) :
    (s.modPort p f).device d = s.device d := by cases p <;> rfl

/-! ## Changing the store sequencer -/

@[simp] theorem modSsq_pending (s : State) (f : Sequencer → Sequencer) : (s.modSsq f).pending = s.pending := rfl
@[simp] theorem modSsq_now (s : State) (f : Sequencer → Sequencer) : (s.modSsq f).now = s.now := rfl
@[simp] theorem modSsq_choices (s : State) (f : Sequencer → Sequencer) : (s.modSsq f).choices = s.choices := rfl
@[simp] theorem modSsq_inputs (s : State) (f : Sequencer → Sequencer) : (s.modSsq f).inputs = s.inputs := rfl
@[simp] theorem modSsq_mem (s : State) (f : Sequencer → Sequencer) : (s.modSsq f).mem = s.mem := rfl
@[simp] theorem modSsq_sin (s : State) (f : Sequencer → Sequencer) : (s.modSsq f).sin = s.sin := rfl
@[simp] theorem modSsq_fst (s : State) (f : Sequencer → Sequencer) : (s.modSsq f).fst = s.fst := rfl
@[simp] theorem modSsq_sst (s : State) (f : Sequencer → Sequencer) : (s.modSsq f).sst = s.sst := rfl
@[simp] theorem modSsq_vwc (s : State) (f : Sequencer → Sequencer) : (s.modSsq f).vwc = s.vwc := rfl
@[simp] theorem modSsq_ren (s : State) (f : Sequencer → Sequencer) : (s.modSsq f).ren = s.ren := rfl
@[simp] theorem modSsq_opp (s : State) (f : Sequencer → Sequencer) : (s.modSsq f).opp = s.opp := rfl
@[simp] theorem modSsq_opt (s : State) (f : Sequencer → Sequencer) : (s.modSsq f).opt = s.opt := rfl
@[simp] theorem modSsq_disp (s : State) (f : Sequencer → Sequencer) : (s.modSsq f).disp = s.disp := rfl
@[simp] theorem modSsq_skipped (s : State) (f : Sequencer → Sequencer) : (s.modSsq f).skipped = s.skipped := rfl
@[simp] theorem modSsq_foc (s : State) (f : Sequencer → Sequencer) : (s.modSsq f).foc = s.foc := rfl
@[simp] theorem modSsq_liu (s : State) (f : Sequencer → Sequencer) : (s.modSsq f).liu = s.liu := rfl
@[simp] theorem modSsq_cat (s : State) (f : Sequencer → Sequencer) : (s.modSsq f).cat = s.cat := rfl
@[simp] theorem modSsq_sre (s : State) (f : Sequencer → Sequencer) : (s.modSsq f).sre = s.sre := rfl
@[simp] theorem modSsq_cp0 (s : State) (f : Sequencer → Sequencer) : (s.modSsq f).cp0 = s.cp0 := rfl
@[simp] theorem modSsq_cp1 (s : State) (f : Sequencer → Sequencer) : (s.modSsq f).cp1 = s.cp1 := rfl
@[simp] theorem modSsq_cp2 (s : State) (f : Sequencer → Sequencer) : (s.modSsq f).cp2 = s.cp2 := rfl
@[simp] theorem modSsq_out0 (s : State) (f : Sequencer → Sequencer) : (s.modSsq f).out0 = s.out0 := rfl
@[simp] theorem modSsq_out1 (s : State) (f : Sequencer → Sequencer) : (s.modSsq f).out1 = s.out1 := rfl
@[simp] theorem modSsq_out2 (s : State) (f : Sequencer → Sequencer) : (s.modSsq f).out2 = s.out2 := rfl

@[simp] theorem modSsq_ssq (s : State) (f : Sequencer → Sequencer) : (s.modSsq f).ssq = f s.ssq := rfl

@[simp] theorem modSsq_port (s : State) (f : Sequencer → Sequencer) (p : PortId) : (s.modSsq f).port p = s.port p := by
  cases p <;> rfl

/-! ## Changing the catalogue -/

@[simp] theorem modCat_pending (s : State) (f : Catalogue → Catalogue) : (s.modCat f).pending = s.pending := rfl
@[simp] theorem modCat_now (s : State) (f : Catalogue → Catalogue) : (s.modCat f).now = s.now := rfl
@[simp] theorem modCat_choices (s : State) (f : Catalogue → Catalogue) : (s.modCat f).choices = s.choices := rfl
@[simp] theorem modCat_inputs (s : State) (f : Catalogue → Catalogue) : (s.modCat f).inputs = s.inputs := rfl
@[simp] theorem modCat_mem (s : State) (f : Catalogue → Catalogue) : (s.modCat f).mem = s.mem := rfl
@[simp] theorem modCat_sin (s : State) (f : Catalogue → Catalogue) : (s.modCat f).sin = s.sin := rfl
@[simp] theorem modCat_fst (s : State) (f : Catalogue → Catalogue) : (s.modCat f).fst = s.fst := rfl
@[simp] theorem modCat_sst (s : State) (f : Catalogue → Catalogue) : (s.modCat f).sst = s.sst := rfl
@[simp] theorem modCat_vwc (s : State) (f : Catalogue → Catalogue) : (s.modCat f).vwc = s.vwc := rfl
@[simp] theorem modCat_ren (s : State) (f : Catalogue → Catalogue) : (s.modCat f).ren = s.ren := rfl
@[simp] theorem modCat_opp (s : State) (f : Catalogue → Catalogue) : (s.modCat f).opp = s.opp := rfl
@[simp] theorem modCat_opt (s : State) (f : Catalogue → Catalogue) : (s.modCat f).opt = s.opt := rfl
@[simp] theorem modCat_disp (s : State) (f : Catalogue → Catalogue) : (s.modCat f).disp = s.disp := rfl
@[simp] theorem modCat_skipped (s : State) (f : Catalogue → Catalogue) : (s.modCat f).skipped = s.skipped := rfl
@[simp] theorem modCat_foc (s : State) (f : Catalogue → Catalogue) : (s.modCat f).foc = s.foc := rfl
@[simp] theorem modCat_liu (s : State) (f : Catalogue → Catalogue) : (s.modCat f).liu = s.liu := rfl
@[simp] theorem modCat_ssq (s : State) (f : Catalogue → Catalogue) : (s.modCat f).ssq = s.ssq := rfl
@[simp] theorem modCat_sre (s : State) (f : Catalogue → Catalogue) : (s.modCat f).sre = s.sre := rfl
@[simp] theorem modCat_cp0 (s : State) (f : Catalogue → Catalogue) : (s.modCat f).cp0 = s.cp0 := rfl
@[simp] theorem modCat_cp1 (s : State) (f : Catalogue → Catalogue) : (s.modCat f).cp1 = s.cp1 := rfl
@[simp] theorem modCat_cp2 (s : State) (f : Catalogue → Catalogue) : (s.modCat f).cp2 = s.cp2 := rfl
@[simp] theorem modCat_out0 (s : State) (f : Catalogue → Catalogue) : (s.modCat f).out0 = s.out0 := rfl
@[simp] theorem modCat_out1 (s : State) (f : Catalogue → Catalogue) : (s.modCat f).out1 = s.out1 := rfl
@[simp] theorem modCat_out2 (s : State) (f : Catalogue → Catalogue) : (s.modCat f).out2 = s.out2 := rfl

@[simp] theorem modCat_cat (s : State) (f : Catalogue → Catalogue) : (s.modCat f).cat = f s.cat := rfl

@[simp] theorem modCat_port (s : State) (f : Catalogue → Catalogue) (p : PortId) : (s.modCat f).port p = s.port p := by
  cases p <;> rfl

@[simp] theorem modCat_device (s : State) (f : Catalogue → Catalogue) (d : DevId) :
    (s.modCat f).device d = s.device d := rfl

/-! ## Replacing a frame slot -/

@[simp] theorem setSlot_pending (s : State) (n : Nat) (x : Slot) : (s.setSlot n x).pending = s.pending := rfl
@[simp] theorem setSlot_now (s : State) (n : Nat) (x : Slot) : (s.setSlot n x).now = s.now := rfl
@[simp] theorem setSlot_choices (s : State) (n : Nat) (x : Slot) : (s.setSlot n x).choices = s.choices := rfl
@[simp] theorem setSlot_inputs (s : State) (n : Nat) (x : Slot) : (s.setSlot n x).inputs = s.inputs := rfl
@[simp] theorem setSlot_mem (s : State) (n : Nat) (x : Slot) : (s.setSlot n x).mem = s.mem := rfl
@[simp] theorem setSlot_sin (s : State) (n : Nat) (x : Slot) : (s.setSlot n x).sin = s.sin := rfl
@[simp] theorem setSlot_sst (s : State) (n : Nat) (x : Slot) : (s.setSlot n x).sst = s.sst := rfl
@[simp] theorem setSlot_vwc (s : State) (n : Nat) (x : Slot) : (s.setSlot n x).vwc = s.vwc := rfl
@[simp] theorem setSlot_ren (s : State) (n : Nat) (x : Slot) : (s.setSlot n x).ren = s.ren := rfl
@[simp] theorem setSlot_opp (s : State) (n : Nat) (x : Slot) : (s.setSlot n x).opp = s.opp := rfl
@[simp] theorem setSlot_opt (s : State) (n : Nat) (x : Slot) : (s.setSlot n x).opt = s.opt := rfl
@[simp] theorem setSlot_disp (s : State) (n : Nat) (x : Slot) : (s.setSlot n x).disp = s.disp := rfl
@[simp] theorem setSlot_skipped (s : State) (n : Nat) (x : Slot) : (s.setSlot n x).skipped = s.skipped := rfl
@[simp] theorem setSlot_foc (s : State) (n : Nat) (x : Slot) : (s.setSlot n x).foc = s.foc := rfl
@[simp] theorem setSlot_liu (s : State) (n : Nat) (x : Slot) : (s.setSlot n x).liu = s.liu := rfl
@[simp] theorem setSlot_ssq (s : State) (n : Nat) (x : Slot) : (s.setSlot n x).ssq = s.ssq := rfl
@[simp] theorem setSlot_cat (s : State) (n : Nat) (x : Slot) : (s.setSlot n x).cat = s.cat := rfl
@[simp] theorem setSlot_sre (s : State) (n : Nat) (x : Slot) : (s.setSlot n x).sre = s.sre := rfl
@[simp] theorem setSlot_cp0 (s : State) (n : Nat) (x : Slot) : (s.setSlot n x).cp0 = s.cp0 := rfl
@[simp] theorem setSlot_cp1 (s : State) (n : Nat) (x : Slot) : (s.setSlot n x).cp1 = s.cp1 := rfl
@[simp] theorem setSlot_cp2 (s : State) (n : Nat) (x : Slot) : (s.setSlot n x).cp2 = s.cp2 := rfl
@[simp] theorem setSlot_out0 (s : State) (n : Nat) (x : Slot) : (s.setSlot n x).out0 = s.out0 := rfl
@[simp] theorem setSlot_out1 (s : State) (n : Nat) (x : Slot) : (s.setSlot n x).out1 = s.out1 := rfl
@[simp] theorem setSlot_out2 (s : State) (n : Nat) (x : Slot) : (s.setSlot n x).out2 = s.out2 := rfl

@[simp] theorem setSlot_counter (s : State) (n : Nat) (x : Slot) : (s.setSlot n x).fst.counter = s.fst.counter := rfl

/-- A frame slot after one is replaced: a number beyond 9 is never written. -/
theorem setSlot_slot (s : State) (n m : Nat) (x : Slot) :
    (s.setSlot n x).slot m = if m = n ∧ n < 10 then x else s.slot m := by
  unfold State.setSlot State.slot
  by_cases h : m < 10
  · simp only [Vector.getElem?_eq_getElem h, Option.getD_some, Vector.getElem_setIfInBounds h]
    split <;> split <;> first | rfl | omega
  · have : ¬ (m = n ∧ n < 10) := by omega
    simp [h, this]

@[simp] theorem setSlot_slot_self (s : State) (n : Nat) (x : Slot) (h : n < 10) : (s.setSlot n x).slot n = x := by
  simp [setSlot_slot, h]

@[simp] theorem setSlot_slot_other (s : State) (n m : Nat) (x : Slot) (h : m ≠ n) :
    (s.setSlot n x).slot m = s.slot m := by simp [setSlot_slot, h]

@[simp] theorem setSlot_port (s : State) (n : Nat) (x : Slot) (p : PortId) : (s.setSlot n x).port p = s.port p := by
  cases p <;> rfl

@[simp] theorem setSlot_device (s : State) (n : Nat) (x : Slot) (d : DevId) :
    (s.setSlot n x).device d = s.device d := rfl

/-! ## Replacing a lesson -/

@[simp] theorem setLesson_pending (s : State) (n : Nat) (x : Lesson) : (s.setLesson n x).pending = s.pending := rfl
@[simp] theorem setLesson_now (s : State) (n : Nat) (x : Lesson) : (s.setLesson n x).now = s.now := rfl
@[simp] theorem setLesson_choices (s : State) (n : Nat) (x : Lesson) : (s.setLesson n x).choices = s.choices := rfl
@[simp] theorem setLesson_inputs (s : State) (n : Nat) (x : Lesson) : (s.setLesson n x).inputs = s.inputs := rfl
@[simp] theorem setLesson_mem (s : State) (n : Nat) (x : Lesson) : (s.setLesson n x).mem = s.mem := rfl
@[simp] theorem setLesson_sin (s : State) (n : Nat) (x : Lesson) : (s.setLesson n x).sin = s.sin := rfl
@[simp] theorem setLesson_fst (s : State) (n : Nat) (x : Lesson) : (s.setLesson n x).fst = s.fst := rfl
@[simp] theorem setLesson_sst (s : State) (n : Nat) (x : Lesson) : (s.setLesson n x).sst = s.sst := rfl
@[simp] theorem setLesson_vwc (s : State) (n : Nat) (x : Lesson) : (s.setLesson n x).vwc = s.vwc := rfl
@[simp] theorem setLesson_ren (s : State) (n : Nat) (x : Lesson) : (s.setLesson n x).ren = s.ren := rfl
@[simp] theorem setLesson_opp (s : State) (n : Nat) (x : Lesson) : (s.setLesson n x).opp = s.opp := rfl
@[simp] theorem setLesson_opt (s : State) (n : Nat) (x : Lesson) : (s.setLesson n x).opt = s.opt := rfl
@[simp] theorem setLesson_disp (s : State) (n : Nat) (x : Lesson) : (s.setLesson n x).disp = s.disp := rfl
@[simp] theorem setLesson_skipped (s : State) (n : Nat) (x : Lesson) : (s.setLesson n x).skipped = s.skipped := rfl
@[simp] theorem setLesson_foc (s : State) (n : Nat) (x : Lesson) : (s.setLesson n x).foc = s.foc := rfl
@[simp] theorem setLesson_liu (s : State) (n : Nat) (x : Lesson) : (s.setLesson n x).liu = s.liu := rfl
@[simp] theorem setLesson_ssq (s : State) (n : Nat) (x : Lesson) : (s.setLesson n x).ssq = s.ssq := rfl
@[simp] theorem setLesson_sre (s : State) (n : Nat) (x : Lesson) : (s.setLesson n x).sre = s.sre := rfl
@[simp] theorem setLesson_cp0 (s : State) (n : Nat) (x : Lesson) : (s.setLesson n x).cp0 = s.cp0 := rfl
@[simp] theorem setLesson_cp1 (s : State) (n : Nat) (x : Lesson) : (s.setLesson n x).cp1 = s.cp1 := rfl
@[simp] theorem setLesson_cp2 (s : State) (n : Nat) (x : Lesson) : (s.setLesson n x).cp2 = s.cp2 := rfl
@[simp] theorem setLesson_out0 (s : State) (n : Nat) (x : Lesson) : (s.setLesson n x).out0 = s.out0 := rfl
@[simp] theorem setLesson_out1 (s : State) (n : Nat) (x : Lesson) : (s.setLesson n x).out1 = s.out1 := rfl
@[simp] theorem setLesson_out2 (s : State) (n : Nat) (x : Lesson) : (s.setLesson n x).out2 = s.out2 := rfl

@[simp] theorem setLesson_port (s : State) (n : Nat) (x : Lesson) (p : PortId) :
    (s.setLesson n x).port p = s.port p := by cases p <;> rfl

@[simp] theorem setLesson_device (s : State) (n : Nat) (x : Lesson) (d : DevId) :
    (s.setLesson n x).device d = s.device d := rfl

/-! ## Replacing a page -/

@[simp] theorem setPage_pending (s : State) (n : Nat) (x : Page) : (s.setPage n x).pending = s.pending := rfl
@[simp] theorem setPage_now (s : State) (n : Nat) (x : Page) : (s.setPage n x).now = s.now := rfl
@[simp] theorem setPage_choices (s : State) (n : Nat) (x : Page) : (s.setPage n x).choices = s.choices := rfl
@[simp] theorem setPage_inputs (s : State) (n : Nat) (x : Page) : (s.setPage n x).inputs = s.inputs := rfl
@[simp] theorem setPage_mem (s : State) (n : Nat) (x : Page) : (s.setPage n x).mem = s.mem := rfl
@[simp] theorem setPage_sin (s : State) (n : Nat) (x : Page) : (s.setPage n x).sin = s.sin := rfl
@[simp] theorem setPage_fst (s : State) (n : Nat) (x : Page) : (s.setPage n x).fst = s.fst := rfl
@[simp] theorem setPage_sst (s : State) (n : Nat) (x : Page) : (s.setPage n x).sst = s.sst := rfl
@[simp] theorem setPage_vwc (s : State) (n : Nat) (x : Page) : (s.setPage n x).vwc = s.vwc := rfl
@[simp] theorem setPage_ren (s : State) (n : Nat) (x : Page) : (s.setPage n x).ren = s.ren := rfl
@[simp] theorem setPage_opp (s : State) (n : Nat) (x : Page) : (s.setPage n x).opp = s.opp := rfl
@[simp] theorem setPage_opt (s : State) (n : Nat) (x : Page) : (s.setPage n x).opt = s.opt := rfl
@[simp] theorem setPage_disp (s : State) (n : Nat) (x : Page) : (s.setPage n x).disp = s.disp := rfl
@[simp] theorem setPage_skipped (s : State) (n : Nat) (x : Page) : (s.setPage n x).skipped = s.skipped := rfl
@[simp] theorem setPage_foc (s : State) (n : Nat) (x : Page) : (s.setPage n x).foc = s.foc := rfl
@[simp] theorem setPage_liu (s : State) (n : Nat) (x : Page) : (s.setPage n x).liu = s.liu := rfl
@[simp] theorem setPage_ssq (s : State) (n : Nat) (x : Page) : (s.setPage n x).ssq = s.ssq := rfl
@[simp] theorem setPage_sre (s : State) (n : Nat) (x : Page) : (s.setPage n x).sre = s.sre := rfl
@[simp] theorem setPage_cp0 (s : State) (n : Nat) (x : Page) : (s.setPage n x).cp0 = s.cp0 := rfl
@[simp] theorem setPage_cp1 (s : State) (n : Nat) (x : Page) : (s.setPage n x).cp1 = s.cp1 := rfl
@[simp] theorem setPage_cp2 (s : State) (n : Nat) (x : Page) : (s.setPage n x).cp2 = s.cp2 := rfl
@[simp] theorem setPage_out0 (s : State) (n : Nat) (x : Page) : (s.setPage n x).out0 = s.out0 := rfl
@[simp] theorem setPage_out1 (s : State) (n : Nat) (x : Page) : (s.setPage n x).out1 = s.out1 := rfl
@[simp] theorem setPage_out2 (s : State) (n : Nat) (x : Page) : (s.setPage n x).out2 = s.out2 := rfl

@[simp] theorem setPage_port (s : State) (n : Nat) (x : Page) (p : PortId) :
    (s.setPage n x).port p = s.port p := by cases p <;> rfl

@[simp] theorem setPage_device (s : State) (n : Nat) (x : Page) (d : DevId) :
    (s.setPage n x).device d = s.device d := rfl

/-! ## Replacing a block's entry -/

@[simp] theorem setBlock_pending (s : State) (g : Nat) (x : Option BlockState) :
    (s.setBlock g x).pending = s.pending := rfl
@[simp] theorem setBlock_now (s : State) (g : Nat) (x : Option BlockState) : (s.setBlock g x).now = s.now := rfl
@[simp] theorem setBlock_choices (s : State) (g : Nat) (x : Option BlockState) :
    (s.setBlock g x).choices = s.choices := rfl
@[simp] theorem setBlock_inputs (s : State) (g : Nat) (x : Option BlockState) :
    (s.setBlock g x).inputs = s.inputs := rfl
@[simp] theorem setBlock_mem (s : State) (g : Nat) (x : Option BlockState) : (s.setBlock g x).mem = s.mem := rfl
@[simp] theorem setBlock_sin (s : State) (g : Nat) (x : Option BlockState) : (s.setBlock g x).sin = s.sin := rfl
@[simp] theorem setBlock_fst (s : State) (g : Nat) (x : Option BlockState) : (s.setBlock g x).fst = s.fst := rfl
@[simp] theorem setBlock_sst (s : State) (g : Nat) (x : Option BlockState) : (s.setBlock g x).sst = s.sst := rfl
@[simp] theorem setBlock_vwc (s : State) (g : Nat) (x : Option BlockState) : (s.setBlock g x).vwc = s.vwc := rfl
@[simp] theorem setBlock_ren (s : State) (g : Nat) (x : Option BlockState) : (s.setBlock g x).ren = s.ren := rfl
@[simp] theorem setBlock_opp (s : State) (g : Nat) (x : Option BlockState) : (s.setBlock g x).opp = s.opp := rfl
@[simp] theorem setBlock_opt (s : State) (g : Nat) (x : Option BlockState) : (s.setBlock g x).opt = s.opt := rfl
@[simp] theorem setBlock_disp (s : State) (g : Nat) (x : Option BlockState) : (s.setBlock g x).disp = s.disp := rfl
@[simp] theorem setBlock_skipped (s : State) (g : Nat) (x : Option BlockState) :
    (s.setBlock g x).skipped = s.skipped := rfl
@[simp] theorem setBlock_foc (s : State) (g : Nat) (x : Option BlockState) : (s.setBlock g x).foc = s.foc := rfl
@[simp] theorem setBlock_liu (s : State) (g : Nat) (x : Option BlockState) : (s.setBlock g x).liu = s.liu := rfl
@[simp] theorem setBlock_ssq (s : State) (g : Nat) (x : Option BlockState) : (s.setBlock g x).ssq = s.ssq := rfl
@[simp] theorem setBlock_sre (s : State) (g : Nat) (x : Option BlockState) : (s.setBlock g x).sre = s.sre := rfl
@[simp] theorem setBlock_cp0 (s : State) (g : Nat) (x : Option BlockState) : (s.setBlock g x).cp0 = s.cp0 := rfl
@[simp] theorem setBlock_cp1 (s : State) (g : Nat) (x : Option BlockState) : (s.setBlock g x).cp1 = s.cp1 := rfl
@[simp] theorem setBlock_cp2 (s : State) (g : Nat) (x : Option BlockState) : (s.setBlock g x).cp2 = s.cp2 := rfl
@[simp] theorem setBlock_out0 (s : State) (g : Nat) (x : Option BlockState) : (s.setBlock g x).out0 = s.out0 := rfl
@[simp] theorem setBlock_out1 (s : State) (g : Nat) (x : Option BlockState) : (s.setBlock g x).out1 = s.out1 := rfl
@[simp] theorem setBlock_out2 (s : State) (g : Nat) (x : Option BlockState) : (s.setBlock g x).out2 = s.out2 := rfl

@[simp] theorem setBlock_port (s : State) (g : Nat) (x : Option BlockState) (p : PortId) :
    (s.setBlock g x).port p = s.port p := by cases p <;> rfl

@[simp] theorem setBlock_device (s : State) (g : Nat) (x : Option BlockState) (d : DevId) :
    (s.setBlock g x).device d = s.device d := rfl

/-- The table after an entry is replaced: a number beyond it is never written. -/
theorem setLesson_lesson (s : State) (n m : Nat) (x : Lesson) :
    (s.setLesson n x).lesson m = if m = n ∧ n < 64 then x else s.lesson m := by
  unfold State.setLesson State.lesson State.modCat
  by_cases h : m < 64
  · simp only [Vector.getElem?_eq_getElem h, Option.getD_some, Vector.getElem_setIfInBounds h]
    split <;> split <;> first | rfl | omega
  · have : ¬ (m = n ∧ n < 64) := by omega
    simp [h, this]

/-- The table after an entry is replaced: a number beyond it is never written. -/
theorem setPage_page (s : State) (n m : Nat) (x : Page) :
    (s.setPage n x).page m = if m = n ∧ n < 1024 then x else s.page m := by
  unfold State.setPage State.page State.modCat
  by_cases h : m < 1024
  · simp only [Vector.getElem?_eq_getElem h, Option.getD_some, Vector.getElem_setIfInBounds h]
    split <;> split <;> first | rfl | omega
  · have : ¬ (m = n ∧ n < 1024) := by omega
    simp [h, this]

/-- The table after an entry is replaced: a number beyond it is never written. -/
theorem setBlock_block (s : State) (n m : Nat) (x : Option BlockState) :
    (s.setBlock n x).block m = if m = n ∧ n < 8192 then x else s.block m := by
  unfold State.setBlock State.block State.modCat
  by_cases h : m < 8192
  · simp only [Vector.getElem?_eq_getElem h, Option.getD_some, Vector.getElem_setIfInBounds h]
    split <;> split <;> first | rfl | omega
  · have : ¬ (m = n ∧ n < 8192) := by omega
    simp [h, this]

/-! ## Replacing several blocks -/

theorem setBlocks_cons (s : State) (g : Nat) (gs : List Nat) (x : BlockState) :
    s.setBlocks (g :: gs) x = (s.setBlock g (some x)).setBlocks gs x := rfl

@[simp] theorem setBlocks_pending (s : State) (gs : List Nat) (x : BlockState) :
    (s.setBlocks gs x).pending = s.pending := by
  induction gs generalizing s with
  | nil => rfl
  | cons g gs ih => rw [setBlocks_cons, ih]; rfl

@[simp] theorem setBlocks_now (s : State) (gs : List Nat) (x : BlockState) : (s.setBlocks gs x).now = s.now := by
  induction gs generalizing s with
  | nil => rfl
  | cons g gs ih => rw [setBlocks_cons, ih]; rfl

@[simp] theorem setBlocks_choices (s : State) (gs : List Nat) (x : BlockState) :
    (s.setBlocks gs x).choices = s.choices := by
  induction gs generalizing s with
  | nil => rfl
  | cons g gs ih => rw [setBlocks_cons, ih]; rfl

@[simp] theorem setBlocks_inputs (s : State) (gs : List Nat) (x : BlockState) :
    (s.setBlocks gs x).inputs = s.inputs := by
  induction gs generalizing s with
  | nil => rfl
  | cons g gs ih => rw [setBlocks_cons, ih]; rfl

@[simp] theorem setBlocks_mem (s : State) (gs : List Nat) (x : BlockState) : (s.setBlocks gs x).mem = s.mem := by
  induction gs generalizing s with
  | nil => rfl
  | cons g gs ih => rw [setBlocks_cons, ih]; rfl

@[simp] theorem setBlocks_sin (s : State) (gs : List Nat) (x : BlockState) : (s.setBlocks gs x).sin = s.sin := by
  induction gs generalizing s with
  | nil => rfl
  | cons g gs ih => rw [setBlocks_cons, ih]; rfl

@[simp] theorem setBlocks_fst (s : State) (gs : List Nat) (x : BlockState) : (s.setBlocks gs x).fst = s.fst := by
  induction gs generalizing s with
  | nil => rfl
  | cons g gs ih => rw [setBlocks_cons, ih]; rfl

@[simp] theorem setBlocks_sst (s : State) (gs : List Nat) (x : BlockState) : (s.setBlocks gs x).sst = s.sst := by
  induction gs generalizing s with
  | nil => rfl
  | cons g gs ih => rw [setBlocks_cons, ih]; rfl

@[simp] theorem setBlocks_vwc (s : State) (gs : List Nat) (x : BlockState) : (s.setBlocks gs x).vwc = s.vwc := by
  induction gs generalizing s with
  | nil => rfl
  | cons g gs ih => rw [setBlocks_cons, ih]; rfl

@[simp] theorem setBlocks_ren (s : State) (gs : List Nat) (x : BlockState) : (s.setBlocks gs x).ren = s.ren := by
  induction gs generalizing s with
  | nil => rfl
  | cons g gs ih => rw [setBlocks_cons, ih]; rfl

@[simp] theorem setBlocks_opp (s : State) (gs : List Nat) (x : BlockState) : (s.setBlocks gs x).opp = s.opp := by
  induction gs generalizing s with
  | nil => rfl
  | cons g gs ih => rw [setBlocks_cons, ih]; rfl

@[simp] theorem setBlocks_opt (s : State) (gs : List Nat) (x : BlockState) : (s.setBlocks gs x).opt = s.opt := by
  induction gs generalizing s with
  | nil => rfl
  | cons g gs ih => rw [setBlocks_cons, ih]; rfl

@[simp] theorem setBlocks_disp (s : State) (gs : List Nat) (x : BlockState) : (s.setBlocks gs x).disp = s.disp := by
  induction gs generalizing s with
  | nil => rfl
  | cons g gs ih => rw [setBlocks_cons, ih]; rfl

@[simp] theorem setBlocks_skipped (s : State) (gs : List Nat) (x : BlockState) :
    (s.setBlocks gs x).skipped = s.skipped := by
  induction gs generalizing s with
  | nil => rfl
  | cons g gs ih => rw [setBlocks_cons, ih]; rfl

@[simp] theorem setBlocks_foc (s : State) (gs : List Nat) (x : BlockState) : (s.setBlocks gs x).foc = s.foc := by
  induction gs generalizing s with
  | nil => rfl
  | cons g gs ih => rw [setBlocks_cons, ih]; rfl

@[simp] theorem setBlocks_liu (s : State) (gs : List Nat) (x : BlockState) : (s.setBlocks gs x).liu = s.liu := by
  induction gs generalizing s with
  | nil => rfl
  | cons g gs ih => rw [setBlocks_cons, ih]; rfl

@[simp] theorem setBlocks_ssq (s : State) (gs : List Nat) (x : BlockState) : (s.setBlocks gs x).ssq = s.ssq := by
  induction gs generalizing s with
  | nil => rfl
  | cons g gs ih => rw [setBlocks_cons, ih]; rfl

@[simp] theorem setBlocks_sre (s : State) (gs : List Nat) (x : BlockState) : (s.setBlocks gs x).sre = s.sre := by
  induction gs generalizing s with
  | nil => rfl
  | cons g gs ih => rw [setBlocks_cons, ih]; rfl

@[simp] theorem setBlocks_cp0 (s : State) (gs : List Nat) (x : BlockState) : (s.setBlocks gs x).cp0 = s.cp0 := by
  induction gs generalizing s with
  | nil => rfl
  | cons g gs ih => rw [setBlocks_cons, ih]; rfl

@[simp] theorem setBlocks_cp1 (s : State) (gs : List Nat) (x : BlockState) : (s.setBlocks gs x).cp1 = s.cp1 := by
  induction gs generalizing s with
  | nil => rfl
  | cons g gs ih => rw [setBlocks_cons, ih]; rfl

@[simp] theorem setBlocks_cp2 (s : State) (gs : List Nat) (x : BlockState) : (s.setBlocks gs x).cp2 = s.cp2 := by
  induction gs generalizing s with
  | nil => rfl
  | cons g gs ih => rw [setBlocks_cons, ih]; rfl

@[simp] theorem setBlocks_out0 (s : State) (gs : List Nat) (x : BlockState) : (s.setBlocks gs x).out0 = s.out0 := by
  induction gs generalizing s with
  | nil => rfl
  | cons g gs ih => rw [setBlocks_cons, ih]; rfl

@[simp] theorem setBlocks_out1 (s : State) (gs : List Nat) (x : BlockState) : (s.setBlocks gs x).out1 = s.out1 := by
  induction gs generalizing s with
  | nil => rfl
  | cons g gs ih => rw [setBlocks_cons, ih]; rfl

@[simp] theorem setBlocks_out2 (s : State) (gs : List Nat) (x : BlockState) : (s.setBlocks gs x).out2 = s.out2 := by
  induction gs generalizing s with
  | nil => rfl
  | cons g gs ih => rw [setBlocks_cons, ih]; rfl

@[simp] theorem setBlocks_port (s : State) (gs : List Nat) (x : BlockState) (p : PortId) :
    (s.setBlocks gs x).port p = s.port p := by
  cases p <;> simp [State.port]

/-! ## Moving the clock -/

@[simp] theorem clockTo_pending (s : State) (moment : Nat) : (s.clockTo moment).pending = s.pending := rfl
@[simp] theorem clockTo_choices (s : State) (moment : Nat) : (s.clockTo moment).choices = s.choices := rfl
@[simp] theorem clockTo_inputs (s : State) (moment : Nat) : (s.clockTo moment).inputs = s.inputs := rfl
@[simp] theorem clockTo_mem (s : State) (moment : Nat) : (s.clockTo moment).mem = s.mem := rfl
@[simp] theorem clockTo_sin (s : State) (moment : Nat) : (s.clockTo moment).sin = s.sin := rfl
@[simp] theorem clockTo_fst (s : State) (moment : Nat) : (s.clockTo moment).fst = s.fst := rfl
@[simp] theorem clockTo_sst (s : State) (moment : Nat) : (s.clockTo moment).sst = s.sst := rfl
@[simp] theorem clockTo_vwc (s : State) (moment : Nat) : (s.clockTo moment).vwc = s.vwc := rfl
@[simp] theorem clockTo_ren (s : State) (moment : Nat) : (s.clockTo moment).ren = s.ren := rfl
@[simp] theorem clockTo_opp (s : State) (moment : Nat) : (s.clockTo moment).opp = s.opp := rfl
@[simp] theorem clockTo_opt (s : State) (moment : Nat) : (s.clockTo moment).opt = s.opt := rfl
@[simp] theorem clockTo_disp (s : State) (moment : Nat) : (s.clockTo moment).disp = s.disp := rfl
@[simp] theorem clockTo_skipped (s : State) (moment : Nat) : (s.clockTo moment).skipped = s.skipped := rfl
@[simp] theorem clockTo_foc (s : State) (moment : Nat) : (s.clockTo moment).foc = s.foc := rfl
@[simp] theorem clockTo_liu (s : State) (moment : Nat) : (s.clockTo moment).liu = s.liu := rfl
@[simp] theorem clockTo_ssq (s : State) (moment : Nat) : (s.clockTo moment).ssq = s.ssq := rfl
@[simp] theorem clockTo_cat (s : State) (moment : Nat) : (s.clockTo moment).cat = s.cat := rfl
@[simp] theorem clockTo_sre (s : State) (moment : Nat) : (s.clockTo moment).sre = s.sre := rfl
@[simp] theorem clockTo_cp0 (s : State) (moment : Nat) : (s.clockTo moment).cp0 = s.cp0 := rfl
@[simp] theorem clockTo_cp1 (s : State) (moment : Nat) : (s.clockTo moment).cp1 = s.cp1 := rfl
@[simp] theorem clockTo_cp2 (s : State) (moment : Nat) : (s.clockTo moment).cp2 = s.cp2 := rfl
@[simp] theorem clockTo_out0 (s : State) (moment : Nat) : (s.clockTo moment).out0 = s.out0 := rfl
@[simp] theorem clockTo_out1 (s : State) (moment : Nat) : (s.clockTo moment).out1 = s.out1 := rfl
@[simp] theorem clockTo_out2 (s : State) (moment : Nat) : (s.clockTo moment).out2 = s.out2 := rfl

@[simp] theorem clockTo_now (s : State) (moment : Nat) : (s.clockTo moment).now = max s.now moment := rfl

@[simp] theorem clockTo_port (s : State) (moment : Nat) (p : PortId) :
    (s.clockTo moment).port p = s.port p := by cases p <;> rfl

@[simp] theorem clockTo_device (s : State) (moment : Nat) (d : DevId) : (s.clockTo moment).device d = s.device d := rfl

/-! ## Posting a notice -/

@[simp] theorem post_pending (p : PortId) (n : Notice) (s : State) :
    (post p n s).pending = s.pending := by cases p <;> rfl
@[simp] theorem post_now (p : PortId) (n : Notice) (s : State) : (post p n s).now = s.now := by cases p <;> rfl
@[simp] theorem post_choices (p : PortId) (n : Notice) (s : State) :
    (post p n s).choices = s.choices := by cases p <;> rfl
@[simp] theorem post_inputs (p : PortId) (n : Notice) (s : State) : (post p n s).inputs = s.inputs := by cases p <;> rfl
@[simp] theorem post_mem (p : PortId) (n : Notice) (s : State) : (post p n s).mem = s.mem := by cases p <;> rfl
@[simp] theorem post_sin (p : PortId) (n : Notice) (s : State) : (post p n s).sin = s.sin := by cases p <;> rfl
@[simp] theorem post_fst (p : PortId) (n : Notice) (s : State) : (post p n s).fst = s.fst := by cases p <;> rfl
@[simp] theorem post_sst (p : PortId) (n : Notice) (s : State) : (post p n s).sst = s.sst := by cases p <;> rfl
@[simp] theorem post_vwc (p : PortId) (n : Notice) (s : State) : (post p n s).vwc = s.vwc := by cases p <;> rfl
@[simp] theorem post_ren (p : PortId) (n : Notice) (s : State) : (post p n s).ren = s.ren := by cases p <;> rfl
@[simp] theorem post_opp (p : PortId) (n : Notice) (s : State) : (post p n s).opp = s.opp := by cases p <;> rfl
@[simp] theorem post_opt (p : PortId) (n : Notice) (s : State) : (post p n s).opt = s.opt := by cases p <;> rfl
@[simp] theorem post_disp (p : PortId) (n : Notice) (s : State) : (post p n s).disp = s.disp := by cases p <;> rfl
@[simp] theorem post_skipped (p : PortId) (n : Notice) (s : State) :
    (post p n s).skipped = s.skipped := by cases p <;> rfl
@[simp] theorem post_foc (p : PortId) (n : Notice) (s : State) : (post p n s).foc = s.foc := by cases p <;> rfl
@[simp] theorem post_liu (p : PortId) (n : Notice) (s : State) : (post p n s).liu = s.liu := by cases p <;> rfl
@[simp] theorem post_ssq (p : PortId) (n : Notice) (s : State) : (post p n s).ssq = s.ssq := by cases p <;> rfl
@[simp] theorem post_cat (p : PortId) (n : Notice) (s : State) : (post p n s).cat = s.cat := by cases p <;> rfl
@[simp] theorem post_sre (p : PortId) (n : Notice) (s : State) : (post p n s).sre = s.sre := by cases p <;> rfl
@[simp] theorem post_out0 (p : PortId) (n : Notice) (s : State) : (post p n s).out0 = s.out0 := by cases p <;> rfl
@[simp] theorem post_out1 (p : PortId) (n : Notice) (s : State) : (post p n s).out1 = s.out1 := by cases p <;> rfl
@[simp] theorem post_out2 (p : PortId) (n : Notice) (s : State) : (post p n s).out2 = s.out2 := by cases p <;> rfl

/-! ## Posting a notice to all three ports -/

@[simp] theorem postAll_pending (n : Notice) (s : State) : (postAll n s).pending = s.pending := rfl
@[simp] theorem postAll_now (n : Notice) (s : State) : (postAll n s).now = s.now := rfl
@[simp] theorem postAll_choices (n : Notice) (s : State) : (postAll n s).choices = s.choices := rfl
@[simp] theorem postAll_inputs (n : Notice) (s : State) : (postAll n s).inputs = s.inputs := rfl
@[simp] theorem postAll_mem (n : Notice) (s : State) : (postAll n s).mem = s.mem := rfl
@[simp] theorem postAll_sin (n : Notice) (s : State) : (postAll n s).sin = s.sin := rfl
@[simp] theorem postAll_fst (n : Notice) (s : State) : (postAll n s).fst = s.fst := rfl
@[simp] theorem postAll_sst (n : Notice) (s : State) : (postAll n s).sst = s.sst := rfl
@[simp] theorem postAll_vwc (n : Notice) (s : State) : (postAll n s).vwc = s.vwc := rfl
@[simp] theorem postAll_ren (n : Notice) (s : State) : (postAll n s).ren = s.ren := rfl
@[simp] theorem postAll_opp (n : Notice) (s : State) : (postAll n s).opp = s.opp := rfl
@[simp] theorem postAll_opt (n : Notice) (s : State) : (postAll n s).opt = s.opt := rfl
@[simp] theorem postAll_disp (n : Notice) (s : State) : (postAll n s).disp = s.disp := rfl
@[simp] theorem postAll_skipped (n : Notice) (s : State) : (postAll n s).skipped = s.skipped := rfl
@[simp] theorem postAll_foc (n : Notice) (s : State) : (postAll n s).foc = s.foc := rfl
@[simp] theorem postAll_liu (n : Notice) (s : State) : (postAll n s).liu = s.liu := rfl
@[simp] theorem postAll_ssq (n : Notice) (s : State) : (postAll n s).ssq = s.ssq := rfl
@[simp] theorem postAll_cat (n : Notice) (s : State) : (postAll n s).cat = s.cat := rfl
@[simp] theorem postAll_sre (n : Notice) (s : State) : (postAll n s).sre = s.sre := rfl
@[simp] theorem postAll_out0 (n : Notice) (s : State) : (postAll n s).out0 = s.out0 := rfl
@[simp] theorem postAll_out1 (n : Notice) (s : State) : (postAll n s).out1 = s.out1 := rfl
@[simp] theorem postAll_out2 (n : Notice) (s : State) : (postAll n s).out2 = s.out2 := rfl

/-! ## Posting a notice to the other two ports -/

@[simp] theorem postOthers_pending (p : PortId) (n : Notice) (s : State) :
    (postOthers p n s).pending = s.pending := by cases p <;> rfl
@[simp] theorem postOthers_now (p : PortId) (n : Notice) (s : State) :
    (postOthers p n s).now = s.now := by cases p <;> rfl
@[simp] theorem postOthers_choices (p : PortId) (n : Notice) (s : State) :
    (postOthers p n s).choices = s.choices := by cases p <;> rfl
@[simp] theorem postOthers_inputs (p : PortId) (n : Notice) (s : State) :
    (postOthers p n s).inputs = s.inputs := by cases p <;> rfl
@[simp] theorem postOthers_mem (p : PortId) (n : Notice) (s : State) :
    (postOthers p n s).mem = s.mem := by cases p <;> rfl
@[simp] theorem postOthers_sin (p : PortId) (n : Notice) (s : State) :
    (postOthers p n s).sin = s.sin := by cases p <;> rfl
@[simp] theorem postOthers_fst (p : PortId) (n : Notice) (s : State) :
    (postOthers p n s).fst = s.fst := by cases p <;> rfl
@[simp] theorem postOthers_sst (p : PortId) (n : Notice) (s : State) :
    (postOthers p n s).sst = s.sst := by cases p <;> rfl
@[simp] theorem postOthers_vwc (p : PortId) (n : Notice) (s : State) :
    (postOthers p n s).vwc = s.vwc := by cases p <;> rfl
@[simp] theorem postOthers_ren (p : PortId) (n : Notice) (s : State) :
    (postOthers p n s).ren = s.ren := by cases p <;> rfl
@[simp] theorem postOthers_opp (p : PortId) (n : Notice) (s : State) :
    (postOthers p n s).opp = s.opp := by cases p <;> rfl
@[simp] theorem postOthers_opt (p : PortId) (n : Notice) (s : State) :
    (postOthers p n s).opt = s.opt := by cases p <;> rfl
@[simp] theorem postOthers_disp (p : PortId) (n : Notice) (s : State) :
    (postOthers p n s).disp = s.disp := by cases p <;> rfl
@[simp] theorem postOthers_skipped (p : PortId) (n : Notice) (s : State) :
    (postOthers p n s).skipped = s.skipped := by cases p <;> rfl
@[simp] theorem postOthers_foc (p : PortId) (n : Notice) (s : State) :
    (postOthers p n s).foc = s.foc := by cases p <;> rfl
@[simp] theorem postOthers_liu (p : PortId) (n : Notice) (s : State) :
    (postOthers p n s).liu = s.liu := by cases p <;> rfl
@[simp] theorem postOthers_ssq (p : PortId) (n : Notice) (s : State) :
    (postOthers p n s).ssq = s.ssq := by cases p <;> rfl
@[simp] theorem postOthers_cat (p : PortId) (n : Notice) (s : State) :
    (postOthers p n s).cat = s.cat := by cases p <;> rfl
@[simp] theorem postOthers_sre (p : PortId) (n : Notice) (s : State) :
    (postOthers p n s).sre = s.sre := by cases p <;> rfl
@[simp] theorem postOthers_out0 (p : PortId) (n : Notice) (s : State) :
    (postOthers p n s).out0 = s.out0 := by cases p <;> rfl
@[simp] theorem postOthers_out1 (p : PortId) (n : Notice) (s : State) :
    (postOthers p n s).out1 = s.out1 := by cases p <;> rfl
@[simp] theorem postOthers_out2 (p : PortId) (n : Notice) (s : State) :
    (postOthers p n s).out2 = s.out2 := by cases p <;> rfl

@[simp] theorem post_port (p q : PortId) (n : Notice) (s : State) :
    (post p n s).port q = if q = p then placeNotice n (s.port q) else s.port q := modPort_port s p q _

@[simp] theorem postAll_port (n : Notice) (s : State) (q : PortId) :
    (postAll n s).port q = placeNotice n (s.port q) := by cases q <;> rfl

@[simp] theorem postOthers_port (p q : PortId) (n : Notice) (s : State) :
    (postOthers p n s).port q = if q = p then s.port q else placeNotice n (s.port q) := by
  cases p <;> cases q <;> rfl

@[simp] theorem post_device (p : PortId) (n : Notice) (s : State) (d : DevId) : (post p n s).device d = s.device d := by
  cases p <;> rfl

@[simp] theorem postAll_device (n : Notice) (s : State) (d : DevId) : (postAll n s).device d = s.device d := rfl

@[simp] theorem postOthers_device (p : PortId) (n : Notice) (s : State) (d : DevId) :
    (postOthers p n s).device d = s.device d := by cases p <;> rfl

/-! ## Placing an answer -/

@[simp] theorem answer_pending (p : PortId) (x : Status) (c : Byte) (data : List Byte) (s : State) :
    (answer p x c data s).pending = s.pending := by cases p <;> rfl
@[simp] theorem answer_now (p : PortId) (x : Status) (c : Byte) (data : List Byte) (s : State) :
    (answer p x c data s).now = s.now := by cases p <;> rfl
@[simp] theorem answer_choices (p : PortId) (x : Status) (c : Byte) (data : List Byte) (s : State) :
    (answer p x c data s).choices = s.choices := by cases p <;> rfl
@[simp] theorem answer_inputs (p : PortId) (x : Status) (c : Byte) (data : List Byte) (s : State) :
    (answer p x c data s).inputs = s.inputs := by cases p <;> rfl
@[simp] theorem answer_mem (p : PortId) (x : Status) (c : Byte) (data : List Byte) (s : State) :
    (answer p x c data s).mem = s.mem := by cases p <;> rfl
@[simp] theorem answer_sin (p : PortId) (x : Status) (c : Byte) (data : List Byte) (s : State) :
    (answer p x c data s).sin = s.sin := by cases p <;> rfl
@[simp] theorem answer_fst (p : PortId) (x : Status) (c : Byte) (data : List Byte) (s : State) :
    (answer p x c data s).fst = s.fst := by cases p <;> rfl
@[simp] theorem answer_sst (p : PortId) (x : Status) (c : Byte) (data : List Byte) (s : State) :
    (answer p x c data s).sst = s.sst := by cases p <;> rfl
@[simp] theorem answer_vwc (p : PortId) (x : Status) (c : Byte) (data : List Byte) (s : State) :
    (answer p x c data s).vwc = s.vwc := by cases p <;> rfl
@[simp] theorem answer_ren (p : PortId) (x : Status) (c : Byte) (data : List Byte) (s : State) :
    (answer p x c data s).ren = s.ren := by cases p <;> rfl
@[simp] theorem answer_opp (p : PortId) (x : Status) (c : Byte) (data : List Byte) (s : State) :
    (answer p x c data s).opp = s.opp := by cases p <;> rfl
@[simp] theorem answer_opt (p : PortId) (x : Status) (c : Byte) (data : List Byte) (s : State) :
    (answer p x c data s).opt = s.opt := by cases p <;> rfl
@[simp] theorem answer_disp (p : PortId) (x : Status) (c : Byte) (data : List Byte) (s : State) :
    (answer p x c data s).disp = s.disp := by cases p <;> rfl
@[simp] theorem answer_skipped (p : PortId) (x : Status) (c : Byte) (data : List Byte) (s : State) :
    (answer p x c data s).skipped = s.skipped := by cases p <;> rfl
@[simp] theorem answer_foc (p : PortId) (x : Status) (c : Byte) (data : List Byte) (s : State) :
    (answer p x c data s).foc = s.foc := by cases p <;> rfl
@[simp] theorem answer_liu (p : PortId) (x : Status) (c : Byte) (data : List Byte) (s : State) :
    (answer p x c data s).liu = s.liu := by cases p <;> rfl
@[simp] theorem answer_ssq (p : PortId) (x : Status) (c : Byte) (data : List Byte) (s : State) :
    (answer p x c data s).ssq = s.ssq := by cases p <;> rfl
@[simp] theorem answer_cat (p : PortId) (x : Status) (c : Byte) (data : List Byte) (s : State) :
    (answer p x c data s).cat = s.cat := by cases p <;> rfl
@[simp] theorem answer_sre (p : PortId) (x : Status) (c : Byte) (data : List Byte) (s : State) :
    (answer p x c data s).sre = s.sre := by cases p <;> rfl
@[simp] theorem answer_out0 (p : PortId) (x : Status) (c : Byte) (data : List Byte) (s : State) :
    (answer p x c data s).out0 = s.out0 := by cases p <;> rfl
@[simp] theorem answer_out1 (p : PortId) (x : Status) (c : Byte) (data : List Byte) (s : State) :
    (answer p x c data s).out1 = s.out1 := by cases p <;> rfl
@[simp] theorem answer_out2 (p : PortId) (x : Status) (c : Byte) (data : List Byte) (s : State) :
    (answer p x c data s).out2 = s.out2 := by cases p <;> rfl

@[simp] theorem answer_port (p q : PortId) (x : Status) (c : Byte) (data : List Byte) (s : State) :
    (answer p x c data s).port q =
      if q = p then { s.port q with answers := (s.port q).answers ++ [{ status := x, code := c, data := data }] }
      else s.port q := modPort_port s p q _

@[simp] theorem answer_device (p : PortId) (x : Status) (c : Byte) (data : List Byte) (s : State) (d : DevId) :
    (answer p x c data s).device d = s.device d := by cases p <;> rfl

/-! ## Counting a discarded frame -/

@[simp] theorem countDiscard_pending (p : PortId) (s : State) :
    (countDiscard p s).pending = s.pending := by cases p <;> rfl
@[simp] theorem countDiscard_now (p : PortId) (s : State) : (countDiscard p s).now = s.now := by cases p <;> rfl
@[simp] theorem countDiscard_choices (p : PortId) (s : State) :
    (countDiscard p s).choices = s.choices := by cases p <;> rfl
@[simp] theorem countDiscard_inputs (p : PortId) (s : State) :
    (countDiscard p s).inputs = s.inputs := by cases p <;> rfl
@[simp] theorem countDiscard_mem (p : PortId) (s : State) : (countDiscard p s).mem = s.mem := by cases p <;> rfl
@[simp] theorem countDiscard_sin (p : PortId) (s : State) : (countDiscard p s).sin = s.sin := by cases p <;> rfl
@[simp] theorem countDiscard_fst (p : PortId) (s : State) : (countDiscard p s).fst = s.fst := by cases p <;> rfl
@[simp] theorem countDiscard_sst (p : PortId) (s : State) : (countDiscard p s).sst = s.sst := by cases p <;> rfl
@[simp] theorem countDiscard_vwc (p : PortId) (s : State) : (countDiscard p s).vwc = s.vwc := by cases p <;> rfl
@[simp] theorem countDiscard_ren (p : PortId) (s : State) : (countDiscard p s).ren = s.ren := by cases p <;> rfl
@[simp] theorem countDiscard_opp (p : PortId) (s : State) : (countDiscard p s).opp = s.opp := by cases p <;> rfl
@[simp] theorem countDiscard_opt (p : PortId) (s : State) : (countDiscard p s).opt = s.opt := by cases p <;> rfl
@[simp] theorem countDiscard_disp (p : PortId) (s : State) : (countDiscard p s).disp = s.disp := by cases p <;> rfl
@[simp] theorem countDiscard_skipped (p : PortId) (s : State) :
    (countDiscard p s).skipped = s.skipped := by cases p <;> rfl
@[simp] theorem countDiscard_foc (p : PortId) (s : State) : (countDiscard p s).foc = s.foc := by cases p <;> rfl
@[simp] theorem countDiscard_liu (p : PortId) (s : State) : (countDiscard p s).liu = s.liu := by cases p <;> rfl
@[simp] theorem countDiscard_ssq (p : PortId) (s : State) : (countDiscard p s).ssq = s.ssq := by cases p <;> rfl
@[simp] theorem countDiscard_cat (p : PortId) (s : State) : (countDiscard p s).cat = s.cat := by cases p <;> rfl
@[simp] theorem countDiscard_sre (p : PortId) (s : State) : (countDiscard p s).sre = s.sre := by cases p <;> rfl
@[simp] theorem countDiscard_out0 (p : PortId) (s : State) : (countDiscard p s).out0 = s.out0 := by cases p <;> rfl
@[simp] theorem countDiscard_out1 (p : PortId) (s : State) : (countDiscard p s).out1 = s.out1 := by cases p <;> rfl
@[simp] theorem countDiscard_out2 (p : PortId) (s : State) : (countDiscard p s).out2 = s.out2 := by cases p <;> rfl

/-! ## What a port shifts out -/

@[simp] theorem setOut_pending (p : PortId) (bytes : List Byte) (s : State) :
    (setOut p bytes s).pending = s.pending := by cases p <;> rfl
@[simp] theorem setOut_now (p : PortId) (bytes : List Byte) (s : State) :
    (setOut p bytes s).now = s.now := by cases p <;> rfl
@[simp] theorem setOut_choices (p : PortId) (bytes : List Byte) (s : State) :
    (setOut p bytes s).choices = s.choices := by cases p <;> rfl
@[simp] theorem setOut_inputs (p : PortId) (bytes : List Byte) (s : State) :
    (setOut p bytes s).inputs = s.inputs := by cases p <;> rfl
@[simp] theorem setOut_mem (p : PortId) (bytes : List Byte) (s : State) :
    (setOut p bytes s).mem = s.mem := by cases p <;> rfl
@[simp] theorem setOut_sin (p : PortId) (bytes : List Byte) (s : State) :
    (setOut p bytes s).sin = s.sin := by cases p <;> rfl
@[simp] theorem setOut_fst (p : PortId) (bytes : List Byte) (s : State) :
    (setOut p bytes s).fst = s.fst := by cases p <;> rfl
@[simp] theorem setOut_sst (p : PortId) (bytes : List Byte) (s : State) :
    (setOut p bytes s).sst = s.sst := by cases p <;> rfl
@[simp] theorem setOut_vwc (p : PortId) (bytes : List Byte) (s : State) :
    (setOut p bytes s).vwc = s.vwc := by cases p <;> rfl
@[simp] theorem setOut_ren (p : PortId) (bytes : List Byte) (s : State) :
    (setOut p bytes s).ren = s.ren := by cases p <;> rfl
@[simp] theorem setOut_opp (p : PortId) (bytes : List Byte) (s : State) :
    (setOut p bytes s).opp = s.opp := by cases p <;> rfl
@[simp] theorem setOut_opt (p : PortId) (bytes : List Byte) (s : State) :
    (setOut p bytes s).opt = s.opt := by cases p <;> rfl
@[simp] theorem setOut_disp (p : PortId) (bytes : List Byte) (s : State) :
    (setOut p bytes s).disp = s.disp := by cases p <;> rfl
@[simp] theorem setOut_skipped (p : PortId) (bytes : List Byte) (s : State) :
    (setOut p bytes s).skipped = s.skipped := by cases p <;> rfl
@[simp] theorem setOut_foc (p : PortId) (bytes : List Byte) (s : State) :
    (setOut p bytes s).foc = s.foc := by cases p <;> rfl
@[simp] theorem setOut_liu (p : PortId) (bytes : List Byte) (s : State) :
    (setOut p bytes s).liu = s.liu := by cases p <;> rfl
@[simp] theorem setOut_ssq (p : PortId) (bytes : List Byte) (s : State) :
    (setOut p bytes s).ssq = s.ssq := by cases p <;> rfl
@[simp] theorem setOut_cat (p : PortId) (bytes : List Byte) (s : State) :
    (setOut p bytes s).cat = s.cat := by cases p <;> rfl
@[simp] theorem setOut_sre (p : PortId) (bytes : List Byte) (s : State) :
    (setOut p bytes s).sre = s.sre := by cases p <;> rfl
@[simp] theorem setOut_cp0 (p : PortId) (bytes : List Byte) (s : State) :
    (setOut p bytes s).cp0 = s.cp0 := by cases p <;> rfl
@[simp] theorem setOut_cp1 (p : PortId) (bytes : List Byte) (s : State) :
    (setOut p bytes s).cp1 = s.cp1 := by cases p <;> rfl
@[simp] theorem setOut_cp2 (p : PortId) (bytes : List Byte) (s : State) :
    (setOut p bytes s).cp2 = s.cp2 := by cases p <;> rfl

@[simp] theorem setOut_port (p q : PortId) (bytes : List Byte) (s : State) : (setOut p bytes s).port q = s.port q := by
  cases p <;> cases q <;> rfl

end Sys2Proof.Machine
end

