-- ==== Sys2Proof/Laws/Notices.lean ====
section
/-! SUPPORT. What posting does: `Tells s t` says that t is s with notices placed at its ports and nothing else. -/

namespace Sys2Proof.Machine

/-- A port to which notices have been posted: its notice queue stays sound (R189), and the lost-notice flag is never
cleared. -/
def Told (q r : Port) : Prop :=
  (∃ ns lost, r = { q with notices := ns, lost := lost }) ∧ (NoticesSound q → NoticesSound r) ∧
    (q.lost = true → r.lost = true)

theorem Told.refl (q : Port) : Told q q := ⟨⟨_, _, rfl⟩, id, id⟩

theorem Told.trans {q r t : Port} (h : Told q r) (g : Told r t) : Told q t := by
  obtain ⟨⟨a, b, rfl⟩, h2, h3⟩ := h
  obtain ⟨⟨c, d, rfl⟩, g2, g3⟩ := g
  exact ⟨⟨c, d, rfl⟩, g2 ∘ h2, g3 ∘ h3⟩

theorem placeNotice_kinds (n : Notice) (l : List Notice) (k : NoticeKind) :
    (((l.map fun m => if m.kind = n.kind then n else m).filter fun m => decide (m.kind = k)).length) =
      (l.filter fun m => decide (m.kind = k)).length := by
  rw [List.filter_map, List.length_map]
  congr 2
  funext m
  by_cases h : m.kind = n.kind <;> simp [h]

theorem placeNotice_sound (n : Notice) (q : Port) (h : NoticesSound q) : NoticesSound (placeNotice n q) := by
  obtain ⟨h1, h2⟩ := h
  unfold placeNotice
  split
  · exact ⟨by simpa using h1, fun k hk => by simpa [placeNotice_kinds] using h2 k hk⟩
  · rename_i hc
    have hnew : ∀ l : List Notice, l.length ≤ 15 → l.Sublist q.notices → ∀ k : NoticeKind, k.coalesces = true →
        ((l ++ [n]).filter fun m => decide (m.kind = k)).length ≤ 1 := by
      intro l _ hs k hk
      have := (hs.filter fun m => decide (m.kind = k)).length_le
      by_cases hn : n.kind = k
      · subst hn
        have h0 : (q.notices.filter fun m => decide (m.kind = n.kind)) = [] := by
          simpa [hk] using hc
        rw [h0] at this
        simp at this ⊢
        exact this
      · simp [hn]
        exact Nat.le_trans (by simpa using this) (h2 k hk)
    split
    · refine ⟨by simp; omega, hnew _ (by simp; omega) (List.drop_sublist 1 _)⟩
    · refine ⟨by simp; omega, hnew _ (by omega) (List.Sublist.refl _)⟩

theorem placeNotice_told (n : Notice) (q : Port) : Told q (placeNotice n q) := by
  refine ⟨?_, placeNotice_sound n q, ?_⟩
  · unfold placeNotice
    split
    · exact ⟨_, _, rfl⟩
    · split <;> exact ⟨_, _, rfl⟩
  · unfold placeNotice
    split
    · exact id
    · split <;> simp

/-- t is s with notices posted. -/
def Tells (s t : State) : Prop :=
  ∃ a b c, Told s.cp0 a ∧ Told s.cp1 b ∧ Told s.cp2 c ∧ t = { s with cp0 := a, cp1 := b, cp2 := c }

theorem Tells.refl (s : State) : Tells s s := ⟨_, _, _, .refl _, .refl _, .refl _, rfl⟩

theorem Tells.trans {s t u : State} (h : Tells s t) (g : Tells t u) : Tells s u := by
  obtain ⟨a, b, c, ha, hb, hc, rfl⟩ := h
  obtain ⟨d, e, f, hd, he, hf, rfl⟩ := g
  exact ⟨d, e, f, ha.trans hd, hb.trans he, hc.trans hf, rfl⟩

theorem Tells.port {s t : State} (h : Tells s t) (p : PortId) : Told (s.port p) (t.port p) := by
  obtain ⟨a, b, c, ha, hb, hc, rfl⟩ := h
  cases p <;> assumption

theorem post_tells (p : PortId) (n : Notice) (s : State) : Tells s (post p n s) := by
  cases p
  · exact ⟨_, _, _, placeNotice_told n _, .refl _, .refl _, rfl⟩
  · exact ⟨_, _, _, .refl _, placeNotice_told n _, .refl _, rfl⟩
  · exact ⟨_, _, _, .refl _, .refl _, placeNotice_told n _, rfl⟩

theorem postAll_tells (n : Notice) (s : State) : Tells s (postAll n s) :=
  ((post_tells .cp0 n s).trans (post_tells .cp1 n _)).trans (post_tells .cp2 n _)

theorem postOthers_tells (p : PortId) (n : Notice) (s : State) : Tells s (postOthers p n s) := by
  cases p <;> exact (post_tells _ n s).trans (post_tells _ n _)

/-! ## Operations that change one part of State and post notices -/

theorem postFocus_tells (cause : List Byte) (s : State) : Tells s (postFocus cause s) := postAll_tells _ s

/-- The search's own changes touch the focus state alone. -/
theorem searchMoves_does (f : Focus) (s : State) : Tells { s with foc := f } (searchMoves f s) := by
  unfold searchMoves
  split
  · exact .refl _
  · exact postFocus_tells _ _

theorem wantMove_last (p : Nat) (f : Focus) : (wantMove p f).last = f.last := by
  simp only [wantMove]
  split <;> rfl

theorem startSearch_last (w : Nat) (f : Focus) : (startSearch w f).last = f.last := rfl

theorem passedPeak_last (r : Search) (f : Focus) : (passedPeak r f).last = f.last := by
  unfold passedPeak enterFine
  split <;> rw [wantMove_last]

theorem stepSearch_last (r : Search) (f : Focus) : (stepSearch r f).last = f.last := by
  unfold stepSearch
  split
  · exact passedPeak_last r f
  · rw [wantMove_last]

theorem coarseMeasure_last (m : Nat) (r : Search) (f : Focus) : (coarseMeasure m r f).last = f.last := by
  unfold coarseMeasure
  repeat' split
  all_goals first | exact stepSearch_last _ f | exact passedPeak_last _ f

theorem fineMeasure_last (m w : Nat) (r : Search) (f : Focus) : (fineMeasure m w r f).last = f.last := by
  simp only [fineMeasure, enterLocked]
  repeat' split
  all_goals first | rfl | rw [wantMove_last]

/-- R111: a publish leaves its measure and motion count as the last delivered. -/
theorem focusOnPublish_last (measure motion width wake : Nat) (still : Bool) (f : Focus) :
    (focusOnPublish measure motion width wake still f).last = some (measure, motion) := by
  have h : (resetMove { f with last := some (measure, motion) }).last = some (measure, motion) := by
    unfold resetMove
    split
    · rw [wantMove_last]
    · rfl
  revert h
  simp only [focusOnPublish]
  generalize resetMove { f with last := some (measure, motion) } = g
  intro h
  split
  · unfold searchPublish
    repeat' split
    all_goals first | exact h | (rw [coarseMeasure_last]; exact h) | (rw [fineMeasure_last]; exact h)
  · unfold lockedPublish
    dsimp only
    split <;> exact h
  · exact h

theorem focusPublish_does (measure motion : Nat) (s : State) :
    ∃ f, f.last = some (measure, motion) ∧ Tells { s with foc := f } (focusPublish measure motion s) :=
  ⟨_, focusOnPublish_last .., searchMoves_does _ _⟩

theorem focusLensEnd_does (success : Bool) (s : State) :
    Tells { s with foc := lensEnded success s.foc } (focusLensEnd success s) := by
  unfold focusLensEnd
  split
  · exact postFocus_tells _ _
  · exact searchMoves_does _ _

/-- R107: what entering DOZE does to FOC. -/
theorem focusHold_does (s : State) : ∃ f, Tells { s with foc := f } (focusHold s) ∧ f.last = s.foc.last := by
  unfold focusHold
  split
  · exact ⟨s.foc, .refl _, rfl⟩
  · exact ⟨s.foc, .refl _, rfl⟩
  · exact ⟨_, postFocus_tells _ _, rfl⟩

/-- R107: what the wake does to FOC. -/
theorem focusWake_does (s : State) : ∃ f, Tells { s with foc := f } (focusWake s) ∧ f.last = s.foc.last := by
  unfold focusWake
  split
  · refine ⟨_, postFocus_tells _ _, ?_⟩
    split <;> rfl
  · exact ⟨s.foc, .refl _, rfl⟩

/-- R121: what the wake changes: the activity state, the idle timer, the reseed flag and FOC. -/
theorem wakePart_does (cause : List Byte) (motion : Option Nat) (s : State) :
    ∃ f, f.last = s.foc.last ∧
      Tells { s with
        liu := { s.liu with doze := false, minutes := 0, minuteFrom := s.now }
        sst := { s.sst with reseed := true }
        foc := f } (wakePart cause motion s) := by
  obtain ⟨f, hf, hl⟩ := focusWake_does (setReseed (restartTimer { s with liu := { s.liu with doze := false } }))
  exact ⟨f, hl, hf.trans (postAll_tells _ _)⟩

/-- R119, R121: what the taking of a request does first: in DOZE the wake, in ACTIVE a restart of the idle timer. -/
theorem requestTaken_does (p : PortId) (s : State) :
    ∃ f r, f.last = s.foc.last ∧ (s.sst.reseed = true → r = true) ∧
      Tells { s with
        liu := { s.liu with doze := false, minutes := 0, minuteFrom := s.now }
        sst := { s.sst with reseed := r }
        foc := f } (requestTaken p s) := by
  unfold requestTaken
  split
  · obtain ⟨f, hl, h⟩ := wakePart_does (portCause p) none s
    exact ⟨f, true, hl, fun _ => rfl, h⟩
  · rename_i hd
    refine ⟨s.foc, s.sst.reseed, rfl, id, ?_⟩
    have : s.liu.doze = false := by simpa using hd
    rw [← this]
    exact .refl _

/-- R119, R121: what the delivery of a motion count to LIU does. -/
theorem motionDelivered_does (motion : Nat) (s : State) :
    ∃ f r d m t, f.last = s.foc.last ∧ (s.sst.reseed = true → r = true) ∧ (s.liu.doze = false → d = false) ∧
      Tells { s with
        liu := { s.liu with doze := d, minutes := m, minuteFrom := t }
        sst := { s.sst with reseed := r }
        foc := f } (motionDelivered motion s) := by
  unfold motionDelivered
  split
  · split
    · obtain ⟨f, hl, h⟩ := wakePart_does motionCause (some motion) s
      exact ⟨f, true, false, 0, s.now, hl, fun _ => rfl, fun _ => rfl, h⟩
    · exact ⟨s.foc, s.sst.reseed, s.liu.doze, 0, s.now, rfl, id, id, .refl _⟩
  · exact ⟨s.foc, s.sst.reseed, s.liu.doze, s.liu.minutes, s.liu.minuteFrom, rfl, id, id, .refl _⟩

end Sys2Proof.Machine
end

