-- ==== Sys2Proof/Laws/Publish.lean ====
section
/-! SUPPORT. What the steps of a publish do (R12, R27, R47, R73), each said once. -/

namespace Sys2Proof.Machine

/-- The FILLING slot is one of the ten, and FILLING. -/
theorem fillingNumber_some {s : State} {n : Nat} (h : fillingNumber s = some n) :
    n < 10 ∧ (s.slot n).state = .filling := by
  have h1 := List.mem_of_find?_eq_some h
  have h2 := List.find?_some h
  simp [slotNumbers] at h1 h2
  exact ⟨h1, h2⟩

/-- R6: damaging the frame in a known slot. -/
theorem damageFrame_some {s : State} {n : Nat} (h : fillingNumber s = some n) : damageFrame s = damagedFrame n s := by
  simp [damageFrame, h, damagedFrame, bump, Config.maxCount]

/-- R73: a tone swap changes the active bank and the pending mark, and posts TONE_COMMITTED. -/
theorem toneSwap_does (s : State) :
    ∃ a w, Tells { s with ren := { s.ren with active := a, swap := w } } (toneSwap s) ∧
      ((a = s.ren.active ∧ w = s.ren.swap) ∨ (a = s.ren.staging ∧ w = false)) := by
  unfold toneSwap
  split
  · exact ⟨_, _, postAll_tells _ _, .inr ⟨rfl, rfl⟩⟩
  · exact ⟨s.ren.active, s.ren.swap, .refl _, .inl ⟨rfl, rfl⟩⟩

/-- R47, R73: what a publish does to the view and the tone banks. -/
theorem publishSteps_does (s : State) :
    ∃ v a w, Tells { s with vwc := v, ren := { s.ren with active := a, swap := w } } (publishSteps s) ∧
      (¬ (s.inputs.projectorPresent = false ∧ s.opt.applied = .off) →
        v = s.vwc ∧ a = s.ren.active ∧ w = s.ren.swap) ∧
      ((s.inputs.projectorPresent = false ∧ s.opt.applied = .off) → v = (glideJump s).vwc ∧
        ((a = s.ren.active ∧ w = s.ren.swap) ∨ (a = s.ren.staging ∧ w = false))) := by
  unfold publishSteps
  split
  · rename_i h
    obtain ⟨a, w, ht, hr⟩ := toneSwap_does (glideJump s)
    exact ⟨_, a, w, ht, fun g => absurd h g, fun _ => ⟨rfl, hr⟩⟩
  · rename_i h
    exact ⟨s.vwc, s.ren.active, s.ren.swap, .refl _, fun _ => ⟨rfl, rfl, rfl⟩, fun g => absurd g h⟩

/-- Log 7: what the renders that run leave behind: the free-value counter, the marks of the jobs and those of the
pipes' frames change, and nothing else. -/
theorem markRenders_does (s : State) :
    ∃ c js k l, js.length = s.sre.jobs.length ∧ js.map Job.state = s.sre.jobs.map Job.state ∧
      markRenders s = { s with
        choices := c
        opp := { s.opp with ctx := s.opp.ctx.mark k s.sst.map }
        opt := { s.opt with ctx := s.opt.ctx.mark l s.sst.map }
        sre := { s.sre with jobs := js } } := by
  unfold markRenders
  split
  · refine ⟨_, _, _, _, ?_, ?_, rfl⟩
    · simp
    · rw [List.map_map]
      congr 1
      funext j
      by_cases h : j.state = .rendering <;> simp [Job.mark, h]
  · rename_i h
    have h1 : s.opp.ctx.renders = false := by
      cases e : s.opp.ctx.renders <;> simp_all [rendersNow]
    have h2 : s.opt.ctx.renders = false := by
      cases e : s.opt.ctx.renders <;> simp_all [rendersNow]
    exact ⟨s.choices, s.sre.jobs, 0, 0, rfl, rfl, by simp [Context.mark, h1, h2]⟩

/-- R34, R35: delivering the measure and the motion count. -/
theorem deliverMeasure_does (record : List TileStat) (s : State) :
    let measure := focusMeasure (liveWindow s) record
    let motion := s.sst.motion.getD 0
    ∃ f r d m t, f.last = some (measure, motion) ∧ (s.sst.reseed = true → r = true) ∧ (s.liu.doze = false → d = false) ∧
      Tells { s with
        liu := { s.liu with doze := d, minutes := m, minuteFrom := t }
        sst := { s.sst with reseed := r, focus := some (measure, (measuredTiles (liveWindow s)).length) }
        foc := f } (deliverMeasure record s) := by
  intro measure motion
  unfold deliverMeasure
  dsimp only
  generalize hs : ({ s with sst := { s.sst with focus := some (measure, (measuredTiles (liveWindow s)).length) } } :
    State) = s1
  obtain ⟨f, hf, h1⟩ := focusPublish_does measure motion s1
  obtain ⟨g, r, d, m, t, hg, hr, hd, h2⟩ := motionDelivered_does motion (focusPublish measure motion s1)
  obtain ⟨a, b, c, ha, hb, hc, h1⟩ := h1
  rw [h1] at h2 hr hd hg
  subst hs
  refine ⟨g, r, d, m, t, hg.trans hf, hr, hd, ?_⟩
  rw [h1]
  exact Tells.trans (t := { s with
    liu := { s.liu with doze := d, minutes := m, minuteFrom := t }
    sst := { s.sst with reseed := r, focus := some (measure, (measuredTiles (liveWindow s)).length) }
    foc := g, cp0 := a, cp1 := b, cp2 := c }) ⟨a, b, c, ha, hb, hc, rfl⟩ h2

/-- Posting notices commutes with what changes no port. -/
theorem Tells.of_eq {s t u : State} (h : Tells s t) (g : s = u) : Tells u t := g ▸ h

/-- R12, R27: what the publish of the frame in slot n changes. -/
theorem publishFrame_does (n : Nat) (s : State) :
    let record := (s.sst.acc.getD []).map tileRecord
    let ready := (makeReady n record s).fst
    let motion := motionCount s.sst.delta s.sst.prev record
    ∃ v a w c js k l f r d m t,
      (¬ (s.inputs.projectorPresent = false ∧ s.opt.applied = .off) →
        v = s.vwc ∧ a = s.ren.active ∧ w = s.ren.swap) ∧
      ((s.inputs.projectorPresent = false ∧ s.opt.applied = .off) → v = (glideJump s).vwc ∧
        ((a = s.ren.active ∧ w = s.ren.swap) ∨ (a = s.ren.staging ∧ w = false))) ∧
      js.length = s.sre.jobs.length ∧ js.map Job.state = s.sre.jobs.map Job.state ∧
      (192 ≤ motion → r = true) ∧ (s.liu.doze = false → d = false) ∧
      let measure := focusMeasure (viewWindow .sensor (projectorTarget s) v.live) record
      f.last = some (measure, motion) ∧
      Tells { s with
        fst := ready
        sin := { s.sin with lastFrame := ((ready.slots[n]?).getD {}).frame }
        vwc := v
        ren := { s.ren with active := a, swap := w }
        choices := c
        opp := { s.opp with ctx := s.opp.ctx.mark k s.sst.map }
        opt := { s.opt with ctx := s.opt.ctx.mark l s.sst.map }
        sre := { s.sre with jobs := js }
        liu := { s.liu with doze := d, minutes := m, minuteFrom := t }
        sst := { publishStatistics record s.sst with
          acc := none, reseed := r
          focus := some (measure, (measuredTiles (viewWindow .sensor (projectorTarget s) v.live)).length) }
        foc := f } (publishFrame n s) := by
  intro record ready motion
  have e : publishFrame n s =
      (fun u : State => deliverMeasure record { u with sst := { publishStatistics record u.sst with acc := none } })
        (markRenders (publishSteps
          { s with fst := ready, sin := { s.sin with lastFrame := ((ready.slots[n]?).getD {}).frame } })) := rfl
  rw [e]
  clear_value ready
  clear e
  obtain ⟨v, a, w, ⟨p0, p1, p2, hp0, hp1, hp2, ht⟩, hv1, hv2⟩ := publishSteps_does
    { s with fst := ready, sin := { s.sin with lastFrame := ((ready.slots[n]?).getD {}).frame } }
  obtain ⟨c, js, k, l, hj1, hj2, hm⟩ := markRenders_does (publishSteps
    { s with fst := ready, sin := { s.sin with lastFrame := ((ready.slots[n]?).getD {}).frame } })
  rw [hm, ht]
  rw [ht] at hj1 hj2
  obtain ⟨f, r, d, m, t', hfl, hrr, hdd, hqt⟩ := deliverMeasure_does record
    { s with
      fst := ready
      sin := { s.sin with lastFrame := ((ready.slots[n]?).getD {}).frame }
      vwc := v
      ren := { s.ren with active := a, swap := w }
      choices := c
      opp := { s.opp with ctx := s.opp.ctx.mark k s.sst.map }
      opt := { s.opt with ctx := s.opt.ctx.mark l s.sst.map }
      sre := { s.sre with jobs := js }
      sst := { publishStatistics record s.sst with acc := none }
      cp0 := p0, cp1 := p1, cp2 := p2 }
  refine ⟨v, a, w, c, js, k, l, f, r, d, m, t', hv1, hv2, hj1, hj2, ?_, hdd, hfl, ?_⟩
  · intro h
    exact hrr (by simpa [publishStatistics] using h)
  · exact Tells.trans ⟨p0, p1, p2, hp0, hp1, hp2, rfl⟩ hqt

end Sys2Proof.Machine
end

