-- ==== Sys2Proof/Laws/Requests.lean ====
section
/-! SUPPORT. The arrival of a request at a port that takes it at once, and at one that does not (R186, R187). -/

namespace Sys2Proof.Machine

/-- The model's test of R187 is the one the statements use. -/
theorem takesAtOnce_iff (p : PortId) (s : State) : takesAtOnce (s.port p) = true ↔ Serves p s := by
  simp [takesAtOnce, mayTake, Serves, and_assoc]

/-- R187: at a port that takes requests, what a request does follows the idle timer or the wake. -/
theorem submit_serves {p : PortId} {s : State} (h : Serves p s) (f : Frame) (take : State → Result)
    (hf : f.params.length ≤ 66) : submit p f take s = take (requestTaken p s) := by
  unfold submit
  rw [if_pos ⟨hf, (takesAtOnce_iff p s).2 h⟩]

/-- R186, R187: at a port that does not take it at once, a request's frame arrives like any other. -/
theorem submit_waits {p : PortId} {s : State} (h : ¬ Serves p s) (f : Frame) (take : State → Result) :
    submit p f take s = arrive p f s := by
  unfold submit
  rw [if_neg fun g => h ((takesAtOnce_iff p s).1 g.2)]

end Sys2Proof.Machine
end

