-- ==== Sys2Proof/Laws/Slots.lean ====
section
/-! SUPPORT. What the choices over the slot table answer (R13, R14), and what placing and dropping holders does to it
(R15 to R17). -/

namespace Sys2Proof.Machine

/-! ## The choices -/

theorem lowestSeq_fold (s : State) (l : List Nat) : ∀ b : Option Nat,
    let r := l.foldl (fun best n => match best with
      | none => some n
      | some m => if seqOf s n < seqOf s m then some n else some m) b
    (r = none → b = none ∧ l = []) ∧
    ∀ x, r = some x → (b = some x ∨ x ∈ l) ∧ (∀ y ∈ l, seqOf s x ≤ seqOf s y) ∧ ∀ y, b = some y → seqOf s x ≤ seqOf s y := by
  induction l with
  | nil => intro b; exact ⟨fun h => ⟨h, rfl⟩, fun x h => ⟨.inl h, by simp, fun y h' => by simp_all⟩⟩
  | cons a l ih =>
    intro b
    simp only [List.foldl_cons]
    refine ⟨fun h => ?_, fun x h => ?_⟩
    · have := ((ih _).1 h).1
      rcases b with _ | m <;> simp at this
      split at this <;> simp at this
    · obtain ⟨h1, h2, h3⟩ := (ih _).2 x h
      rcases b with _ | m
      · simp at h1 h3
        refine ⟨.inr ?_, ?_, by simp⟩
        · rcases h1 with h1 | h1 <;> simp [h1]
        · simpa using ⟨h3, h2⟩
      · by_cases hh : seqOf s a < seqOf s m
        · simp only [hh, if_true] at h1 h3
          have := h3 a rfl
          refine ⟨?_, by simpa using ⟨this, h2⟩, by simp; omega⟩
          rcases h1 with h1 | h1
          · cases h1; simp
          · simp [h1]
        · simp only [hh, if_false] at h1 h3
          have := h3 m rfl
          refine ⟨?_, by simpa using ⟨by omega, h2⟩, by simpa using this⟩
          rcases h1 with h1 | h1
          · exact .inl h1
          · simp [h1]

/-- The lowest publish sequence of a list. -/
theorem lowestSeq_spec (s : State) (l : List Nat) :
    (lowestSeq s l = none ↔ l = []) ∧
    ∀ x, lowestSeq s l = some x → x ∈ l ∧ ∀ y ∈ l, seqOf s x ≤ seqOf s y := by
  have h := lowestSeq_fold s l none
  refine ⟨⟨fun e => (h.1 e).2, fun e => by subst e; rfl⟩, fun x e => ?_⟩
  have := h.2 x e
  exact ⟨by simpa using this.1, this.2.1⟩

theorem highestSeq_fold (s : State) (l : List Nat) : ∀ b : Option Nat,
    let r := l.foldl (fun best n => match best with
      | none => some n
      | some m => if seqOf s m < seqOf s n then some n else some m) b
    (r = none → b = none ∧ l = []) ∧
    ∀ x, r = some x → (b = some x ∨ x ∈ l) ∧ (∀ y ∈ l, seqOf s y ≤ seqOf s x) ∧ ∀ y, b = some y → seqOf s y ≤ seqOf s x := by
  induction l with
  | nil => intro b; exact ⟨fun h => ⟨h, rfl⟩, fun x h => ⟨.inl h, by simp, fun y h' => by simp_all⟩⟩
  | cons a l ih =>
    intro b
    simp only [List.foldl_cons]
    refine ⟨fun h => ?_, fun x h => ?_⟩
    · have := ((ih _).1 h).1
      rcases b with _ | m <;> simp at this
      split at this <;> simp at this
    · obtain ⟨h1, h2, h3⟩ := (ih _).2 x h
      rcases b with _ | m
      · simp at h1 h3
        refine ⟨.inr ?_, ?_, by simp⟩
        · rcases h1 with h1 | h1 <;> simp [h1]
        · simpa using ⟨h3, h2⟩
      · by_cases hh : seqOf s m < seqOf s a
        · simp only [hh, if_true] at h1 h3
          have := h3 a rfl
          refine ⟨?_, by simpa using ⟨this, h2⟩, by simp; omega⟩
          rcases h1 with h1 | h1
          · cases h1; simp
          · simp [h1]
        · simp only [hh, if_false] at h1 h3
          have := h3 m rfl
          refine ⟨?_, by simpa using ⟨by omega, h2⟩, by simpa using this⟩
          rcases h1 with h1 | h1
          · exact .inl h1
          · simp [h1]

/-- The highest publish sequence of a list. -/
theorem highestSeq_spec (s : State) (l : List Nat) :
    (highestSeq s l = none ↔ l = []) ∧
    ∀ x, highestSeq s l = some x → x ∈ l ∧ ∀ y ∈ l, seqOf s y ≤ seqOf s x := by
  have h := highestSeq_fold s l none
  refine ⟨⟨fun e => (h.1 e).2, fun e => by subst e; rfl⟩, fun x e => ?_⟩
  have := h.2 x e
  exact ⟨by simpa using this.1, this.2.1⟩

/-- R13: the newest READY slot is a READY slot of SENSOR kind. -/
theorem newestReady_some {s : State} {n : Nat} (h : newestReady s = some n) :
    n < 10 ∧ (s.slot n).state = .ready ∧ (s.slot n).kind = some .sensor := by
  have := ((highestSeq_spec s _).2 n h).1
  simpa [slotNumbers, readySensor] using this

/-- The slot a holder is found on carries it. -/
theorem holderSlot_some {s : State} {k : HolderKind} {n : Nat} (h : holderSlot s k = some n) :
    n < 10 ∧ (s.slot n).holders.has k = true := by
  have h1 := List.mem_of_find?_eq_some h
  have h2 := List.find?_some h
  exact ⟨by simpa [slotNumbers] using h1, h2⟩

/-- No slot carries a holder that is not found. -/
theorem holderSlot_none {s : State} {k : HolderKind} (h : holderSlot s k = none) (n : Nat) (hn : n < 10) :
    (s.slot n).holders.has k = false := by
  unfold holderSlot at h
  simp [slotNumbers] at h
  exact h n hn

theorem slot_congr {s t : State} (h : s.fst = t.fst) (n : Nat) : s.slot n = t.slot n := by simp [State.slot, h]

/-- The choices read the slot table alone. -/
theorem chooseSlot_congr {s t : State} (h : s.fst = t.fst) : chooseSlot s = chooseSlot t := by
  have : s.slot = t.slot := funext (slot_congr h)
  unfold chooseSlot lowestSeq
  simp only [this, seqOf]
  rfl

theorem newestReady_congr {s t : State} (h : s.fst = t.fst) : newestReady s = newestReady t := by
  have : s.slot = t.slot := funext (slot_congr h)
  unfold newestReady highestSeq
  simp only [this, seqOf]
  rfl

theorem holderSlot_congr {s t : State} (h : s.fst = t.fst) (k : HolderKind) : holderSlot s k = holderSlot t k := by
  have : s.slot = t.slot := funext (slot_congr h)
  simp only [holderSlot, this]

/-! ## Holders -/

@[simp] theorem put_has_self (h : Holders) (k : HolderKind) (b : Bool) : (h.put k b).has k = b := by cases k <;> rfl

theorem put_has_other (h : Holders) {k l : HolderKind} (e : l ≠ k) (b : Bool) : (h.put k b).has l = h.has l := by
  cases k <;> cases l <;> first | rfl | exact absurd rfl e

theorem put_self (h : Holders) (k : HolderKind) : h.put k (h.has k) = h := by cases k <;> rfl

/-- R15, R17: what the loss of a holder makes of a slot that carries it. -/
def lose (k : HolderKind) (x : Slot) : Slot := releaseUnheld { x with holders := x.holders.put k false }

/-- R17: a slot that has lost a holder does not carry it. -/
theorem lose_has (k : HolderKind) (x : Slot) : (lose k x).holders.has k = false := by
  unfold lose releaseUnheld
  split
  · cases k <;> rfl
  · simp

/-- A slot that has lost one holder carries no other holder it did not carry. -/
theorem lose_other {k l : HolderKind} (x : Slot) (h : x.holders.has l = false) : (lose k x).holders.has l = false := by
  unfold lose releaseUnheld
  split
  · cases l <;> rfl
  · by_cases e : l = k
    · subst e; simp
    · simpa [put_has_other _ e] using h

/-- R15: dropping a holder changes one slot. -/
theorem dropHolder_slot (k : HolderKind) (n m : Nat) (s : State) (hn : n < 10) :
    (dropHolder k n s).slot m = if m = n ∧ (s.slot n).holders.has k = true then lose k (s.slot n) else s.slot m := by
  unfold dropHolder
  split
  · rename_i h
    simp [setSlot_slot, h, hn, lose]
  · rename_i h
    simp [h]

/-- R15: placing a holder changes one slot. -/
theorem placeHolder_slot (k : HolderKind) (n m : Nat) (s : State) (hn : n < 10) :
    (placeHolder k n s).slot m =
      if m = n then { s.slot n with holders := (s.slot n).holders.put k true } else s.slot m := by
  simp [placeHolder, setSlot_slot, hn]

/-- t is s with another slot table. -/
def SlotsOnly (s t : State) : Prop := t = { s with fst := { s.fst with slots := t.fst.slots } }

theorem SlotsOnly.refl (s : State) : SlotsOnly s s := rfl

theorem SlotsOnly.trans {s t u : State} (h : SlotsOnly s t) (g : SlotsOnly t u) : SlotsOnly s u := by
  unfold SlotsOnly at *
  rw [g, h]

theorem setSlot_slotsOnly (s : State) (n : Nat) (x : Slot) : SlotsOnly s (s.setSlot n x) := rfl

theorem placeHolder_slotsOnly (k : HolderKind) (n : Nat) (s : State) : SlotsOnly s (placeHolder k n s) := rfl

theorem dropHolder_slotsOnly (k : HolderKind) (n : Nat) (s : State) : SlotsOnly s (dropHolder k n s) := by
  unfold dropHolder
  split
  · rfl
  · exact .refl s

/-- R15, R17: what the handing over of a scan set makes of a slot. -/
def handOver (k : HolderKind) (inSet : Bool) (x : Slot) : Slot :=
  if inSet then { x with holders := x.holders.put k true } else if x.holders.has k then lose k x else x

theorem changeScan_fold (k : HolderKind) (set : List Nat) (l : List Nat) (hl : l.Nodup) (h10 : ∀ n ∈ l, n < 10) :
    ∀ s : State,
      let t := l.foldl (fun s n => if set.contains n then placeHolder k n s else dropHolder k n s) s
      SlotsOnly s t ∧ ∀ m, t.slot m = if m ∈ l then handOver k (set.contains m) (s.slot m) else s.slot m := by
  induction l with
  | nil => intro s; exact ⟨.refl s, fun m => by simp⟩
  | cons a l ih =>
    intro s
    have ha := h10 a (by simp)
    rw [List.nodup_cons] at hl
    obtain ⟨h1, h2⟩ := ih hl.2 (fun n hn => h10 n (by simp [hn]))
      (if set.contains a then placeHolder k a s else dropHolder k a s)
    refine ⟨SlotsOnly.trans ?_ h1, fun m => ?_⟩
    · split
      · exact placeHolder_slotsOnly k a s
      · exact dropHolder_slotsOnly k a s
    · simp only [List.foldl_cons]
      rw [h2 m]
      by_cases hm : m = a
      · subst hm
        simp only [hl.1, if_false, List.mem_cons, true_or, if_true]
        unfold handOver
        split
        · rw [placeHolder_slot _ _ _ _ ha]; simp
        · rw [dropHolder_slot _ _ _ _ ha]; simp
      · have : (if set.contains a then placeHolder k a s else dropHolder k a s).slot m = s.slot m := by
          split
          · rw [placeHolder_slot _ _ _ _ ha]; simp [hm]
          · rw [dropHolder_slot _ _ _ _ ha]; simp [hm]
        rw [this]; simp [hm]

/-- R15: a pipe hands over its scan set: every slot is handled by itself, and nothing else changes. -/
theorem changeScan_spec (k : HolderKind) (set : List Nat) (s : State) :
    SlotsOnly s (changeScan k set s) ∧
    ∀ m, (changeScan k set s).slot m = if m < 10 then handOver k (set.contains m) (s.slot m) else s.slot m := by
  have h := changeScan_fold k set slotNumbers (by decide) (by decide) s
  refine ⟨h.1, fun m => ?_⟩
  rw [changeScan, h.2 m]
  simp [slotNumbers]

/-- R16, R85: where FREEZE or PAGE leaves a slot, the pipes' contexts and that slot change, and nothing else. -/
theorem leaveHolder_spec (k : HolderKind) (s : State) :
    (holderSlot s k = none → leaveHolder k s = s) ∧
    ∀ n, holderSlot s k = some n →
      let t := leaveHolder k s
      t = { s with
        fst := { s.fst with slots := t.fst.slots }
        opp := { s.opp with ctx := loseReference n s.opp.ctx }
        opt := { s.opt with ctx := loseReference n s.opt.ctx } } ∧
      (∀ m, m ≠ n → t.slot m = s.slot m) ∧
      (t.slot n).holders.has k = false ∧
      (∀ l, (s.slot n).holders.has l = false → (t.slot n).holders.has l = false) ∧
      (scansAsReference n s.opp.ctx = true → (t.slot n).holders.scanP = false) ∧
      (scansAsReference n s.opt.ctx = true → (t.slot n).holders.scanT = false) := by
  refine ⟨fun h => by simp [leaveHolder, h], fun n h => ?_⟩
  obtain ⟨hn, hk⟩ := holderSlot_some h
  have drop (l : HolderKind) (u : State) : ((dropHolder l n u).slot n).holders.has l = false ∧
      (∀ l', (u.slot n).holders.has l' = false → ((dropHolder l n u).slot n).holders.has l' = false) ∧
      (∀ m, m ≠ n → (dropHolder l n u).slot m = u.slot m) ∧ SlotsOnly u (dropHolder l n u) := by
    refine ⟨?_, fun l' h' => ?_, fun m hm => ?_, dropHolder_slotsOnly l n u⟩
    · rw [dropHolder_slot _ _ _ _ hn]
      split
      · exact lose_has _ _
      · rename_i h; simpa using h
    · rw [dropHolder_slot _ _ _ _ hn]
      split
      · exact lose_other _ h'
      · exact h'
    · rw [dropHolder_slot _ _ _ _ hn]; simp [hm]
  simp only [leaveHolder, h]
  generalize hu : dropHolder k n s = u
  obtain ⟨a1, a2, a3, a4⟩ := drop k s
  rw [hu] at a1 a2 a3 a4
  have hopp : u.opp = s.opp := by rw [a4]
  have hopt : u.opt = s.opt := by rw [a4]
  generalize hv : (if scansAsReference n u.opp.ctx then dropHolder .scanP n u else u) = v
  have b : (∀ l', (u.slot n).holders.has l' = false → (v.slot n).holders.has l' = false) ∧
      (∀ m, m ≠ n → v.slot m = u.slot m) ∧ SlotsOnly u v ∧
      (scansAsReference n u.opp.ctx = true → (v.slot n).holders.scanP = false) := by
    subst hv
    split
    · obtain ⟨d1, d2, d3, d4⟩ := drop .scanP u
      exact ⟨d2, d3, d4, fun _ => d1⟩
    · rename_i h'; exact ⟨fun _ h => h, fun _ _ => rfl, .refl u, fun h'' => absurd h'' h'⟩
  obtain ⟨b1, b2, b3, b4⟩ := b
  have hopt' : v.opt = u.opt := by rw [b3]
  have hopp' : v.opp = u.opp := by rw [b3]
  generalize hw : (if scansAsReference n u.opt.ctx then dropHolder .scanT n v else v) = w
  have c : (∀ l', (v.slot n).holders.has l' = false → (w.slot n).holders.has l' = false) ∧
      (∀ m, m ≠ n → w.slot m = v.slot m) ∧ SlotsOnly v w ∧
      (scansAsReference n u.opt.ctx = true → (w.slot n).holders.scanT = false) := by
    subst hw
    split
    · obtain ⟨d1, d2, d3, d4⟩ := drop .scanT v
      exact ⟨d2, d3, d4, fun _ => d1⟩
    · rename_i h'; exact ⟨fun _ h => h, fun _ _ => rfl, .refl v, fun h'' => absurd h'' h'⟩
  obtain ⟨c1, c2, c3, c4⟩ := c
  have e : SlotsOnly s w := (a4.trans b3).trans c3
  simp only [referenceLoss, hv, hw]
  refine ⟨?_, fun m hm => ?_, ?_, fun l hl => ?_, fun h' => ?_, fun h' => ?_⟩
  · rw [e]
  · exact (c2 m hm).trans ((b2 m hm).trans (a3 m hm))
  · exact c1 _ (b1 _ a1)
  · exact c1 _ (b1 _ (a2 _ hl))
  · exact c1 .scanP (b4 (by rw [hopp]; exact h'))
  · exact c4 (by rw [hopt]; exact h')

end Sys2Proof.Machine
end

