-- ==== Sys2Proof/Laws/StoreWork.lean ====
section
/-! SUPPORT. What the work of the store never touches: `front s` is the part of s that no store operation, no result
reaching its client and no closing of an event changes; one lemma for each operation. -/

namespace Sys2Proof.Machine

/-- A port's queue of requests and its settings. -/
structure PortFront where
  requests : List Frame
  discarded : Nat
  mark : Nat
  tone : Nat
  busy : Bool
  busyFrom : Option Nat
  resetInput : Bool
  transfer : Option Transaction

/-- What store work leaves as it is in a port. -/
def Port.front (q : Port) : PortFront :=
  { requests := q.requests, discarded := q.discarded, mark := q.mark, tone := q.tone, busy := q.busy
    busyFrom := q.busyFrom, resetInput := q.resetInput, transfer := q.transfer }

/-- The lamp and idle settings without the idle timer and its hold. -/
structure LampFront where
  level : Nat
  duty : Nat
  latch : Bool
  doze : Bool
  timeout : Nat
  wakeThreshold : Nat

/-- What store work leaves as it is. -/
structure Front where
  pending : List Instr
  now : Nat
  choices : Nat
  inputs : Inputs
  sin : Intake
  sst : Statistics
  live : ViewRecord
  glide : Nat
  ren : RenderSettings
  projector : ProjectorMode × Option ProjectorMode
  tap : TapMode × Option TapMode
  skipped : Nat
  foc : Focus
  lamp : LampFront
  profile : Profile
  port : PortId → PortFront
  out0 : List Byte
  out1 : List Byte
  out2 : List Byte

/-- What store work leaves as it is in the part. -/
def front (s : State) : Front :=
  { pending := s.pending, now := s.now, choices := s.choices, inputs := s.inputs, sin := s.sin, sst := s.sst
    live := s.vwc.live, glide := s.vwc.glide, ren := s.ren, projector := (s.opp.applied, s.opp.pending)
    tap := (s.opt.applied, s.opt.pending), skipped := s.skipped, foc := s.foc
    lamp := { level := s.liu.level, duty := s.liu.duty, latch := s.liu.latch, doze := s.liu.doze
              timeout := s.liu.timeout, wakeThreshold := s.liu.wakeThreshold }
    profile := s.ssq.profile, port := fun p => (s.port p).front, out0 := s.out0, out1 := s.out1, out2 := s.out2 }

/-! ## Updates -/

@[simp] theorem front_ite (c : Prop) [Decidable c] (s t : State) :
    front (if c then s else t) = if c then front s else front t := apply_ite front c s t

theorem front_ports {s t : State} (h : ∀ p, (t.port p).front = (s.port p).front) :
    (fun p => (t.port p).front) = fun p => (s.port p).front := funext h

theorem front_modPort (s : State) (p : PortId) (f : Port → Port) (h : ∀ q, (f q).front = q.front) :
    front (s.modPort p f) = front s := by
  cases p <;>
    (unfold front; congr 1; funext q; cases q <;> first | rfl | exact h _)
@[simp] theorem front_modCat (s : State) (f : Catalogue → Catalogue) : front (s.modCat f) = front s := rfl
@[simp] theorem front_setSlot (s : State) (n : Nat) (x : Slot) : front (s.setSlot n x) = front s := rfl
@[simp] theorem front_setPage (s : State) (n : Nat) (x : Page) : front (s.setPage n x) = front s := front_modCat s _
@[simp] theorem front_setLesson (s : State) (n : Nat) (x : Lesson) : front (s.setLesson n x) = front s :=
  front_modCat s _
@[simp] theorem front_setBlock (s : State) (n : Nat) (x : Option BlockState) : front (s.setBlock n x) = front s :=
  front_modCat s _
@[simp] theorem front_setBlocks (s : State) (l : List Nat) (x : BlockState) : front (s.setBlocks l x) = front s := by
  unfold State.setBlocks
  induction l generalizing s with
  | nil => rfl
  | cons a l ih => simp [ih]
theorem front_modSsq (s : State) (f : Sequencer → Sequencer) (h : (f s.ssq).profile = s.ssq.profile) :
    front (s.modSsq f) = front s := by
  unfold front
  congr 1
@[simp] theorem front_setDevice (s : State) (d : DevId) (x : Device) : front (s.setDevice d x) = front s :=
  front_modSsq s _ (by cases d <;> rfl)
@[simp] theorem front_sre (s : State) (x : SaveRecall) : front { s with sre := x } = front s := rfl
@[simp] theorem front_fst (s : State) (x : FrameStore) : front { s with fst := x } = front s := rfl
@[simp] theorem front_mem (s : State) (x : Memory) : front { s with mem := x } = front s := rfl
@[simp] theorem front_disp (s : State) (x : Display) : front { s with disp := x } = front s := rfl
@[simp] theorem front_hold (s : State) (b : Bool) : front { s with liu := { s.liu with hold := b } } = front s := rfl
@[simp] theorem front_restartTimer (s : State) : front (restartTimer s) = front s := rfl

/-! ## Notices and answers -/

@[simp] theorem front_placeNotice (n : Notice) (q : Port) : (placeNotice n q).front = q.front := by
  unfold placeNotice
  split
  · rfl
  · split <;> rfl
@[simp] theorem front_post (p : PortId) (n : Notice) (s : State) : front (post p n s) = front s :=
  front_modPort s p _ fun q => front_placeNotice n q
@[simp] theorem front_postAll (n : Notice) (s : State) : front (postAll n s) = front s := by simp [postAll]
@[simp] theorem front_postOthers (p : PortId) (n : Notice) (s : State) : front (postOthers p n s) = front s := by
  cases p <;> simp [postOthers]
@[simp] theorem front_answer (p : PortId) (st : Status) (c : Byte) (d : List Byte) (s : State) :
    front (answer p st c d s) = front s := front_modPort s p _ fun _ => rfl

/-! ## Slots and holders -/

@[simp] theorem front_placeHolder (k : HolderKind) (n : Nat) (s : State) : front (placeHolder k n s) = front s := by
  simp [placeHolder]
@[simp] theorem front_dropHolder (k : HolderKind) (n : Nat) (s : State) : front (dropHolder k n s) = front s := by
  unfold dropHolder; split <;> simp
@[simp] theorem front_contexts (s : State) (a b : Context) :
    front { s with opp := { s.opp with ctx := a }, opt := { s.opt with ctx := b } } = front s := rfl
@[simp] theorem front_referenceLoss (n : Nat) (s : State) : front (referenceLoss n s) = front s := by
  unfold referenceLoss
  simp only [front_contexts]
  repeat' split
  all_goals simp
@[simp] theorem front_leaveHolder (k : HolderKind) (s : State) : front (leaveHolder k s) = front s := by
  unfold leaveHolder; split <;> simp


/-! ## The store bus -/

@[simp] theorem front_pushResult (c : Client) (r : OpResult) (s : State) : front (pushResult c r s) = front s := by
  exact front_modSsq s _ rfl
@[simp] theorem front_withdraw (c : Client) (s : State) : front (withdraw c s) = front s := by
  exact front_modSsq s _ rfl
@[simp] theorem front_freeBus (s : State) : front (freeBus s) = front s := by
  exact front_modSsq s _ rfl
@[simp] theorem front_present (c : Client) (op : BusOp) (s : State) : front (present c op s) = front s := by
  unfold present
  split
  · simp
  · exact front_modSsq s _ rfl
@[simp] theorem front_failWaiting (d : DevId) (s : State) : front (failWaiting d s) = front s := by
  exact front_modSsq s _ rfl
@[simp] theorem front_startRun (u : BusUser) (d : DevId) (k : RunKind) (a : Nat) (b : List Byte) (s : State) :
    front (startRun u d k a b s) = front s := by
  exact front_modSsq s _ rfl
@[simp] theorem front_grantDue (o : DueOp) (s : State) : front (grantDue o s) = front s := by
  simp [grantDue]
@[simp] theorem front_markGranted (s : State) : front (markGranted s) = front s := by
  simp [markGranted]
@[simp] theorem front_grantEffect (w : WaitingOp) (s : State) : front (grantEffect w s) = front s := by
  unfold grantEffect
  split
  · exact front_modSsq s _ rfl
  all_goals simp
@[simp] theorem front_grantWaiting (w : WaitingOp) (s : State) : front (grantWaiting w s) = front s := by
  unfold grantWaiting
  simp only [front_grantEffect, front_startRun]
  exact front_modSsq s _ rfl
@[simp] theorem front_arbitrate (s : State) : front (arbitrate s) = front s := by
  unfold arbitrate
  split
  · rfl
  · split
    · rw [front_grantDue]
      exact front_modSsq s _ rfl
    · split <;> simp
@[simp] theorem front_setDeviceState (d : DevId) (x : DeviceState) (s : State) :
    front (setDeviceState d x s) = front s := by
  simp [setDeviceState]
@[simp] theorem front_programEnds (k : Outstanding) (r : Running) (s : State) :
    front (programEnds k r s) = front s := by
  simp [programEnds]
@[simp] theorem front_pollAgain (d : DevId) (b : BusyRecord) (s : State) : front (pollAgain d b s) = front s := by
  simp [pollAgain]
@[simp] theorem front_declareTimeout (d : DevId) (b : BusyRecord) (s : State) :
    front (declareTimeout d b s) = front s := by
  unfold declareTimeout
  repeat' split
  all_goals simp
@[simp] theorem front_pollDone (d : DevId) (b : BusyRecord) (s : State) : front (pollDone d b s) = front s := by
  unfold pollDone
  repeat' split
  all_goals simp
@[simp] theorem front_startRecheck (d : DevId) (b : BusyRecord) (s : State) :
    front (startRecheck d b s) = front s := by
  unfold startRecheck
  rw [front_modSsq _ _ rfl]
  simp
@[simp] theorem front_probeRead (d : DevId) (id : Byte × Byte × Byte) (s : State) :
    front (probeRead d id s) = front s := by
  simp [probeRead]

/-! ## The catalogue -/

@[simp] theorem front_catalogueChanged (l : Nat) (g : Option Nat) (p : PortId) (s : State) :
    front (catalogueChanged l g p s) = front s := by
  unfold catalogueChanged
  repeat' split
  all_goals simp
@[simp] theorem front_lessonChanged (n : Nat) (p : PortId) (c : Byte) (r : OpResult) (s : State) :
    front (lessonChanged n p c r s) = front s := by
  unfold lessonChanged
  repeat' split
  all_goals simp
@[simp] theorem front_presentTask (s : State) : front (presentTask s) = front s := by
  unfold presentTask
  repeat' split
  all_goals simp
@[simp] theorem front_addTask (k : TaskKind) (g : TaskStage) (s : State) : front (addTask k g s) = front s := by
  unfold addTask
  repeat' split
  all_goals simp
@[simp] theorem front_retirePage (n : Nat) (s : State) : front (retirePage n s) = front s := by
  unfold retirePage
  repeat' split
  all_goals simp
@[simp] theorem front_settleRetired (n : Nat) (s : State) : front (settleRetired n s) = front s := by
  unfold settleRetired
  repeat' split
  all_goals simp
@[simp] theorem front_pinPage (n : Nat) (s : State) : front (pinPage n s) = front s := by
  unfold pinPage
  repeat' split
  all_goals simp
@[simp] theorem front_unpinPage (n : Nat) (s : State) : front (unpinPage n s) = front s := by
  unfold unpinPage
  repeat' split
  all_goals simp
@[simp] theorem front_startRetire (n : Nat) (s : State) : front (startRetire n s) = front s := by
  unfold startRetire
  repeat' split
  all_goals simp
@[simp] theorem front_dropCount (n : Nat) (s : State) : front (dropCount n s) = front s := by
  unfold dropCount
  repeat' split
  all_goals simp
@[simp] theorem front_noteWipe (n : Nat) (r : OpResult) (s : State) : front (noteWipe n r s) = front s := by
  simp [noteWipe]
@[simp] theorem front_retireEnds (n : Nat) (r : OpResult) (s : State) : front (retireEnds n r s) = front s := by
  unfold retireEnds
  repeat' split
  all_goals simp
@[simp] theorem front_deferErase (n : Nat) (t : Task) (r : OpResult) (s : State) :
    front (deferErase n t r s) = front s := by
  unfold deferErase
  repeat' split
  all_goals simp
@[simp] theorem front_createEnds (n : Nat) (p : PortId) (g : Bool) (r : OpResult) (s : State) :
    front (createEnds n p g r s) = front s := by
  unfold createEnds
  repeat' split
  all_goals simp
@[simp] theorem front_rewriteEnds (n : Nat) (c : Option (PortId × Bool)) (r : OpResult) (s : State) :
    front (rewriteEnds n c r s) = front s := by
  unfold rewriteEnds
  repeat' split
  all_goals simp
@[simp] theorem front_wipeEnds (n : Nat) (p : PortId) (f : Option OpResult) (r : OpResult) (s : State) :
    front (wipeEnds n p f r s) = front s := by
  unfold wipeEnds
  repeat' split
  all_goals simp
@[simp] theorem front_presentArea (n : Nat) (s : State) : front (presentArea n s) = front s := by
  unfold presentArea
  repeat' split
  all_goals simp
@[simp] theorem front_presentProbe (d : DevId) (s : State) : front (presentProbe d s) = front s := by
  unfold presentProbe
  repeat' split
  all_goals simp
@[simp] theorem front_setStage (g : MountStage) (s : State) : front (setStage g s) = front s := by
  simp [setStage]
@[simp] theorem front_beginMount (r : Option PortId) (s : State) : front (beginMount r s) = front s := by
  simp [beginMount]
@[simp] theorem front_mountFails (r : MountResult) (s : State) : front (mountFails r s) = front s := by
  simp [mountFails]
@[simp] theorem front_probeEnds (d : DevId) (s : State) : front (probeEnds d s) = front s := by
  cases d
  · simp [probeEnds]
  · unfold probeEnds
    extract_lets
    rename_i t
    split
    · simp +zetaDelta
    · split <;> simp +zetaDelta
@[simp] theorem front_classifyArea (n : Nat) (b : List Byte) (s : State) : front (classifyArea n b s) = front s := by
  unfold classifyArea
  repeat' split
  all_goals simp
theorem front_foldl {α : Type} (f : State → α → State) (h : ∀ s a, front (f s a) = front s) (l : List α) (s : State) :
    front (l.foldl f s) = front s := by
  induction l generalizing s with
  | nil => rfl
  | cons a l ih => rw [List.foldl_cons, ih, h]

@[simp] theorem front_resolveDuplicates (n : Nat) (s : State) : front (resolveDuplicates n s) = front s := by
  induction n generalizing s with
  | zero => rw [resolveDuplicates]
  | succ n ih =>
    rw [resolveDuplicates]
    cases chosenPair (conflicts s) with
    | none => rfl
    | some pair => exact (ih _).trans (front_setPage s _ _)
@[simp] theorem front_recoverLesson (n : Nat) (s : State) : front (recoverLesson s n) = front s := by
  unfold recoverLesson
  extract_lets
  split <;> simp
@[simp] theorem front_recoverLessons (s : State) : front (recoverLessons s) = front s := by
  unfold recoverLessons
  exact front_foldl _ (fun s n => front_recoverLesson n s) _ s
@[simp] theorem front_buildBlocks (s : State) : front (buildBlocks s) = front s := by
  unfold buildBlocks
  extract_lets
  rw [front_foldl _ (fun s n => front_setBlocks s _ _), front_foldl _ fun s n => by rw [apply_ite front]; simp]
  exact front_modCat s _
@[simp] theorem front_buildCounts (s : State) : front (buildCounts s) = front s := by
  unfold buildCounts
  exact front_foldl _ (fun s n => front_setLesson s n _) _ s
@[simp] theorem front_mountCompletes (s : State) : front (mountCompletes s) = front s := by
  unfold mountCompletes
  extract_lets a
  rw [front_presentTask, front_postAll, front_modCat]
  exact (front_buildCounts _).trans (front_buildBlocks s)
@[simp] theorem front_mountResolves (s : State) : front (mountResolves s) = front s := by
  exact (front_mountCompletes _).trans ((front_recoverLessons _).trans (front_resolveDuplicates _ s))
@[simp] theorem front_areaRead (n : Nat) (b : List Byte) (s : State) : front (areaRead n b s) = front s := by
  unfold areaRead
  extract_lets
  split <;> simp +zetaDelta
@[simp] theorem front_mountResult (r : OpResult) (s : State) : front (mountResult r s) = front s := by
  unfold mountResult
  repeat' split
  all_goals simp
@[simp] theorem front_setAlloc (a : Allocation) (s : State) : front (setAlloc a s) = front s := by
  simp [setAlloc]
@[simp] theorem front_takeBlock (g : Nat) (s : State) : front (takeBlock g s).2 = front s := by simp [takeBlock]
@[simp] theorem front_checkRead (g n : Nat) (s : State) : front (checkRead g n s).2 = front s := by simp [checkRead]
@[simp] theorem front_waitForErase (s : State) : front (waitForErase s).2 = front s := by
  unfold waitForErase; split <;> simp
@[simp] theorem front_allocate (s : State) : front (allocate s).2 = front s := by
  unfold allocate; repeat' split
  all_goals simp
@[simp] theorem front_continueScan (s : State) : front (continueScan s).2 = front s := by
  unfold continueScan; split <;> simp
@[simp] theorem front_checkEnds (r : OpResult) (s : State) : front (checkEnds r s).2 = front s := by
  unfold checkEnds; repeat' split
  all_goals simp
@[simp] theorem front_reserve (n : Nat) (s : State) : front (reserve n s) = front s := by
  simp [reserve]
@[simp] theorem front_unreserve (n : Nat) (s : State) : front (unreserve n s) = front s := by
  simp [unreserve]
@[simp] theorem front_kickReclaim (s : State) : front (kickReclaim s) = front s := by
  unfold kickReclaim
  repeat' split
  all_goals simp
@[simp] theorem front_itemEnds (i : ReclaimItem) (r : OpResult) (s : State) : front (itemEnds i r s) = front s := by
  unfold itemEnds
  repeat' split
  all_goals simp

/-! ## Saving -/

@[simp] theorem front_modJob (n : Nat) (f : Job → Job) (s : State) : front (modJob n f s) = front s := by
  exact front_sre s _
@[simp] theorem front_kickRender (s : State) : front (kickRender s) = front s := by
  unfold kickRender
  repeat' split
  all_goals simp
@[simp] theorem front_setJobBlocks (n : Nat) (b : List Nat) (s : State) : front (setJobBlocks n b s) = front s := by
  simp [setJobBlocks]
@[simp] theorem front_presentProgram (j : Job) (s : State) : front (presentProgram j s) = front s := by
  simp [presentProgram]
@[simp] theorem front_blockTaken (j : Job) (g : Nat) (s : State) : front (blockTaken j g s) = front s := by
  unfold blockTaken
  extract_lets
  split <;> simp +zetaDelta
@[simp] theorem front_updateHold (s : State) : front (updateHold s) = front s := by
  unfold updateHold
  split <;> simp
@[simp] theorem front_endJob (j : Job) (s : State) : front (endJob j s) = front s := by
  simp [endJob]
@[simp] theorem front_abandonPage (j : Job) (x : PageState) (s : State) : front (abandonPage j x s) = front s := by
  unfold abandonPage
  repeat' split
  all_goals simp
@[simp] theorem front_failJob (j : Job) (x : PageState) (r : SaveFailure) (s : State) :
    front (failJob j x r s) = front s := by
  simp [failJob]
@[simp] theorem front_serve (n : Nat) (a : Allocated × State) : front (serve n a) = front a.2 := by
  induction n generalizing a with
  | zero => rfl
  | succ n ih =>
    obtain ⟨a, s⟩ := a
    unfold serve
    split
    · simp
    · extract_lets
      split <;> simp +zetaDelta [ih]
    · rfl
@[simp] theorem front_serveNext (s : State) : front (serveNext s) = front s := by
  unfold serveNext
  repeat' split
  all_goals simp
@[simp] theorem front_resumeAllocation (s : State) : front (resumeAllocation s) = front s := by
  unfold resumeAllocation
  repeat' split
  all_goals simp
@[simp] theorem front_finishRender (j : Job) (s : State) : front (finishRender j s) = front s := by
  unfold finishRender
  repeat' split
  all_goals simp
@[simp] theorem front_renderEnds (s : State) : front (renderEnds s) = front s := by
  unfold renderEnds
  split
  · rfl
  · extract_lets
    split <;> simp +zetaDelta
@[simp] theorem front_programDone (j : Job) (s : State) : front (programDone j s) = front s := by
  unfold programDone
  repeat' split
  all_goals simp
@[simp] theorem front_programTimeout (j : Job) (s : State) : front (programTimeout j s) = front s := by
  unfold programTimeout
  repeat' split
  all_goals simp
@[simp] theorem front_saveResult (r : OpResult) (s : State) : front (saveResult r s) = front s := by
  unfold saveResult
  repeat' split
  all_goals simp
@[simp] theorem front_blankResult (r : OpResult) (s : State) : front (blankResult r s) = front s := by
  simp [blankResult]
@[simp] theorem front_commitDone (j : Job) (s : State) : front (commitDone j s) = front s := by
  simp [commitDone]
@[simp] theorem front_commitEnds (n : Nat) (g : Bool) (r : OpResult) (s : State) :
    front (commitEnds n g r s) = front s := by
  unfold commitEnds
  repeat' split
  all_goals simp
@[simp] theorem front_taskEnds (t : Task) (r : OpResult) (s : State) : front (taskEnds t r s) = front s := by
  unfold taskEnds
  repeat' split
  all_goals simp
@[simp] theorem front_endTask (t : Task) (r : OpResult) (s : State) : front (endTask t r s) = front s := by
  simp [endTask]
@[simp] theorem front_writerResult (r : OpResult) (s : State) : front (writerResult r s) = front s := by
  unfold writerResult
  repeat' split
  all_goals simp
@[simp] theorem front_reclaimResult (r : OpResult) (s : State) : front (reclaimResult r s) = front s := by
  unfold reclaimResult
  repeat' split
  all_goals simp

/-! ## Recalls and direct reads -/

@[simp] theorem front_presentPiece (r : Recall) (s : State) : front (presentPiece r s) = front s := by
  simp [presentPiece]
@[simp] theorem front_setRecall (r : Option Recall) (s : State) : front (setRecall r s) = front s := by
  exact front_sre s _
@[simp] theorem front_dropRecall (r : Recall) (s : State) : front (dropRecall r s) = front s := by
  simp [dropRecall]
@[simp] theorem front_supersede (s : State) : front (supersede s) = front s := by
  unfold supersede
  repeat' split
  all_goals simp
@[simp] theorem front_recallFails (r : Recall) (s : State) : front (recallFails r s) = front s := by
  simp [recallFails]
@[simp] theorem front_showLoaded (n : Nat) (s : State) : front (showLoaded n s) = front s := by
  simp [showLoaded]
@[simp] theorem front_resetPageView (m : PageMode) (s : State) : front (resetPageView m s) = front s := rfl
@[simp] theorem front_setDisplay (m : DisplayMode) (r : Option SplitRef) (s : State) :
    front (setDisplay m r s) = front s := by
  exact front_disp s _
@[simp] theorem front_pageArrives (r : Recall) (s : State) : front (pageArrives r s) = front s := by
  unfold pageArrives
  extract_lets
  simp +zetaDelta
@[simp] theorem front_recallCompletes (r : Recall) (s : State) : front (recallCompletes r s) = front s := by
  simp [recallCompletes]
@[simp] theorem front_pieceRead (b : List Byte) (r : Recall) (s : State) : front (pieceRead b r s) = front s := by
  unfold pieceRead
  repeat' split
  all_goals simp
@[simp] theorem front_recallResult (r : OpResult) (s : State) : front (recallResult r s) = front s := by
  unfold recallResult
  repeat' split
  all_goals simp
@[simp] theorem front_setDirect (p : PortId) (d : Option DirectRead) (s : State) :
    front (setDirect p d s) = front s := by
  exact front_modPort s p _ fun _ => rfl
@[simp] theorem front_presentDirect (p : PortId) (d : DirectRead) (s : State) :
    front (presentDirect p d s) = front s := by
  simp [presentDirect]
@[simp] theorem front_directEnds (p : PortId) (d : DirectRead) (b : List Byte) (s : State) :
    front (directEnds p d b s) = front s := by
  simp [directEnds]
@[simp] theorem front_directResult (p : PortId) (r : OpResult) (s : State) :
    front (directResult p r s) = front s := by
  unfold directResult
  repeat' split
  all_goals simp
@[simp] theorem front_abandonDirect (p : PortId) (s : State) : front (abandonDirect p s) = front s := by
  unfold abandonDirect
  repeat' split
  all_goals simp

/-! ## Events -/

@[simp] theorem front_deliver (c : Client) (r : OpResult) (s : State) : front (deliver c r s) = front s := by
  cases c <;> simp [deliver]
@[simp] theorem front_drain (n : Nat) (s : State) : front (drain n s) = front s := by
  induction n generalizing s with
  | zero => rfl
  | succ n ih =>
    unfold drain
    split
    · rfl
    · rw [ih, front_deliver, front_modSsq _ _ rfl]
@[simp] theorem front_drainAll (s : State) : front (drainAll s) = front s := by
  simp [drainAll]
@[simp] theorem front_close (s : State) : front (close s) = front s := by
  simp [close]
@[simp] theorem front_failRecallFor (d : DevId) (s : State) : front (failRecallFor d s) = front s := by
  unfold failRecallFor
  repeat' split
  all_goals simp
@[simp] theorem front_becomeFaulted (d : DevId) (c : FaultCause) (u : Bool) (s : State) :
    front (becomeFaulted d c u s) = front s := by
  simp [becomeFaulted]
@[simp] theorem front_timeoutDeclared (d : DevId) (b : BusyRecord) (s : State) :
    front (timeoutDeclared d b s) = front s := by
  simp [timeoutDeclared]
@[simp] theorem front_pollEnds (d : DevId) (b : Bool) (s : State) : front (pollEnds d b s) = front s := by
  unfold pollEnds
  repeat' split
  all_goals simp
@[simp] theorem front_probePollEnds (d : DevId) (b : Bool) (s : State) : front (probePollEnds d b s) = front s := by
  unfold probePollEnds
  repeat' split
  all_goals simp
@[simp] theorem front_recheckEnds (d : DevId) (id : Byte × Byte × Byte) (s : State) :
    front (recheckEnds d id s) = front s := by
  unfold recheckEnds
  repeat' split
  all_goals simp
@[simp] theorem front_readEnds (r : Running) (b : List Byte) (s : State) : front (readEnds r b s) = front s := by
  unfold readEnds
  repeat' split
  all_goals simp

/-- What the front of a state says of a port. -/
theorem front_port {s t : State} (h : front t = front s) (p : PortId) : (t.port p).front = (s.port p).front :=
  congrFun (congrArg Front.port h) p

/-- Store work keeps every port's request queue. -/
theorem front_requests {s t : State} (h : front t = front s) (p : PortId) : (t.port p).requests = (s.port p).requests :=
  congrArg PortFront.requests (front_port h p)

/-- R187: with no request waiting nothing is taken. -/
theorem settle_quiet (s : State) (h : ∀ p, (s.port p).requests = []) : settle s = .next s := by
  simp [settle, takeQueued, settlePort, h, andThen]

/-- With no request waiting, an event of the store only delivers its results and closes. -/
theorem finishEvent_quiet (s : State) (h : ∀ p, (s.port p).requests = []) :
    finishEvent s = .next (close (drainAll s)) := by
  have : ∀ p, ((drainAll s).port p).requests = [] := fun p => by
    rw [front_requests (front_drainAll s) p, h]
  simp [finishEvent, settle_quiet _ this, andThen]

end Sys2Proof.Machine
end

