-- ==== Sys2Proof/Tests/Slice0.lean ====
section
/-! SUPPORT. Small tests: ill-formed terms refused, frames written out from R196, one step of each command against the
manual's worked sequences and tables, and for each statement with hypotheses a state and operands that meet them. -/

namespace Sys2Proof.Tests

open Sys2Proof Sys2Proof.Machine

set_option maxRecDepth 8000
set_option Elab.async false

/-! ## Well-formedness -/

theorem test_wf_readEnd_empty : (Instr.readEnd []).wellFormed = false := by decide
theorem test_wf_readEnd_one : (Instr.readEnd [0]).wellFormed = true := by decide
theorem test_wf_readEnd_long : (Instr.readEnd (List.replicate 4097 0)).wellFormed = false := by decide +kernel
theorem test_wf_unknownType : (Instr.unknownTransactionType .cp0 2 ⟨0, true⟩).wellFormed = false := by decide
theorem test_wf_badRequest : (Instr.badRequest .cp0 0 (List.replicate 67 0)).wellFormed = false := by decide
theorem test_wf_loadTone_none : (Instr.loadTone .cp0 0 []).wellFormed = false := by decide
theorem test_wf_loadTone_long : (Instr.loadTone .cp0 0 (List.replicate 65 0)).wellFormed = false := by decide
theorem test_wf_loadToneNext : (Instr.loadToneNext .cp0 []).wellFormed = false := by decide
theorem test_wf_newLesson : (Instr.newLesson .cp0 (List.replicate 63 0x41)).wellFormed = false := by decide

/-- A command entry that carries all six fields takes eight bytes. -/
def wholeEntry (kind : Byte) : ProfileEntry :=
  { kind := kind, code := some 0, commandLanes := some 1, addressLanes := some 1, dataLanes := some 1
    addressBytes := some 4, dummyCycles := some 0 }

/-- No field beside the entries. -/
def noFields : ProfileFields :=
  { divider := none, busyBit := none, busyPolarity := none, pollInterval := none, programTimeout := none
    sectorTimeout := none, blockTimeout := none }

theorem test_wf_setStoreProfile :
    (Instr.setStoreProfile .cp0 noFields (List.replicate 9 (wholeEntry 0))).wellFormed = false := by decide

/-! ## Frames written out from R196 -/

theorem test_table_word : decodeTableWord 8 0 = none := by decide
theorem test_frame_setView : decodeFrame .cp1 ⟨0x10, [0x00, 0xFA, 0x10, 0x00, 0x00, 0x2A]⟩ =
    .setView .cp1 250 4096 42 := by decide
theorem test_frame_setEnhance : decodeFrame .cp0 ⟨0x18, [0x12, 0x0C, 0x40]⟩ =
    .setEnhance .cp0 none (some 12) none none (some 64) := by decide
theorem test_frame_setIdle : decodeFrame .cp2 ⟨0x39, [0x01, 0x00, 0x1E, 0x01, 0x02]⟩ =
    .setIdle .cp2 30 (some 258) := by decide
theorem test_frame_profile : decodeFrame .cp0 ⟨0x40, [0x09, 0x04, 0x00, 0x64, 0x01, 0x20, 0x03]⟩ =
    .setStoreProfile .cp0 { noFields with divider := some 4, pollInterval := some 100 }
      [{ kind := 1, code := none, commandLanes := none, addressLanes := none, dataLanes := none
         addressBytes := none, dummyCycles := some 3 }] := by decide
theorem test_frame_readPageData : decodeFrame .cp0 ⟨0x5A, [0x00, 0x03, 0x00, 0x01, 0x00, 0x02, 0x01, 0x00]⟩ =
    .readPageData .cp0 3 65538 256 := by decide
theorem test_frame_unknown : decodeFrame .cp0 ⟨0x06, []⟩ = .badRequest .cp0 0x06 [] := by decide
theorem test_frame_length : decodeFrame .cp0 ⟨0x58, []⟩ = .badRequest .cp0 0x58 [] := by decide

/-! ## Small states -/

/-- Whether a command completes, and in a state with a property. -/
def gives (c : Instr) (s : State) (p : State → Bool) : Bool :=
  match exec c s with
  | .next t => p t
  | .fault _ => false
  | .refused _ => false

/-- A port that takes requests. -/
def openPort : Port := { Port.reset 0 powerOnNotice {} with notices := [], busy := false, busyFrom := none }

/-- The part after power-on reset and the busy intervals, its notices read. -/
def idle : State := { State.reset with cp0 := openPort, cp1 := openPort, cp2 := openPort }

theorem idle_serves (p : PortId) : Serves p idle := by
  cases p <;> exact ⟨rfl, rfl, by decide, rfl⟩

theorem idle_quiet : Quiet idle := ⟨fun p => by cases p <;> rfl, rfl⟩

/-- A READY SENSOR slot with a publish sequence and holders. -/
def sensorSlot (seq frame : Nat) (holders : Holders) : Slot :=
  { state := .ready, kind := some .sensor, frame := some frame, seq := some seq, concealed := some 0
    stats := some (List.replicate 768 { mean := 180, white := 200, detail := 40 }), holders := holders }

/-- A READY slot of a page. -/
def pageSlot (mode : PageMode) (page seq : Nat) (holders : Holders) : Slot :=
  { state := .ready, kind := some mode.kind, page := some page, seq := some seq, holders := holders }

/-- What the last answer at a port is. -/
def lastAnswer (p : PortId) (s : State) : Option (Status × List Byte) :=
  (s.port p).answers.getLast?.map fun a => (a.status, a.data)

/-- The kinds of the notices at a port. -/
def kinds (p : PortId) (s : State) : List NoticeKind := (s.port p).notices.map Notice.kind

/-- Receiving into slot 9, at a line. -/
def receiving (line : Nat) : State :=
  { idle.setSlot 9 { state := .filling, kind := some .sensor, frame := some 812, concealed := some 0 } with
    sin := { idle.sin with state := .receiving, expected := line }
    sst := { idle.sst with acc := some emptyAccumulation } }

/-- The occupancy table of chapter 01, every claim at once; slot 7 takes no part in the tests. -/
def crowded : State :=
  let put (n : Nat) (x : Slot) (s : State) : State := s.setSlot n x
  put 9 (sensorSlot 48 9 {}) (put 8 (sensorSlot 45 8 {})
    (put 7 { state := .loading, kind := some .pagePhoto, page := some 7 }
    (put 6 { state := .filling, kind := some .sensor, frame := some 60, concealed := some 0 }
    (put 5 (sensorSlot 51 5 { scanP := true }) (put 4 (sensorSlot 50 4 { scanT := true })
    (put 3 (sensorSlot 49 3 { saveB := true }) (put 2 (sensorSlot 47 2 { saveA := true })
    (put 1 (pageSlot .text 1 52 { page := true })
    (put 0 (sensorSlot 40 1 { freeze := true, scanP := true, scanT := true })
      { idle with
        disp := { mode := .split, ref := some .freeze }
        inputs := { idle.inputs with projectorPresent := true, tapReady := true }
        opp := { idle.opp with ctx :=
          { kind := .normal, mode := some .split, ref := some .freeze, live := some 5, reference := some 0 } }
        opt := { applied := .t1080, pending := none, ctx :=
          { kind := .normal, mode := some .split, ref := some .freeze, live := some 4, reference := some 0 } } })))))))))

/-! ## The sensor link and the slots (01) -/

theorem test_frame_start_takes_lowest_free : gives (.frameStartPacket 812) idle (fun t =>
    decide (t.slot 0 = { state := .filling, kind := some .sensor, frame := some 812, concealed := some 0 } ∧
      t.sin.state = .receiving ∧ t.sin.expected = 0)) = true := by decide

/-- Event 2 of the occupancy table, after its event 1: with no FREE slot, slot 8 of sequence 45 is taken. -/
theorem test_frame_start_takes_oldest : gives (.frameStartPacket 61) (crowded.setSlot 6 (sensorSlot 53 60 {}))
    (fun t => decide ((t.slot 8).state = .filling ∧ (t.slot 9).seq = some 48)) = true := by decide

theorem test_newest_ready : newestReady crowded = some 5 := by decide

/-- Line 1501 arrives where 1500 is expected: the frame is damaged. -/
theorem test_line_out_of_place : gives (.linePacket 1501 4096 [] 0) { receiving 1500 with
      sin := { (receiving 1500).sin with damaged := 17, concealed := 205 } } (fun t =>
    decide (t.sin.state = .waitFrame ∧ t.sin.damaged = 18 ∧ t.sin.concealed = 205 ∧ (t.slot 9).state = .free)) = true := by
  decide

/-- Line 250 with a pixel count of 4,092 is concealed. -/
theorem test_line_concealed : gives (.linePacket 0 4092 [] 0) (receiving 0) (fun t =>
    decide ((t.slot 9).concealed = some 1 ∧ t.sin.expected = 1 ∧ t.sin.concealed = 1 ∧
      memRead t.mem (9 * 25165824) = 128 ∧ memRead t.mem (9 * 25165824 + 8191) = 16)) = true := by decide +kernel

theorem test_pair_sum : pairSum [0x12, 0x34, 0xFF, 0xFF] = 0x1234 + 0xFFFF := by decide

theorem test_frame_end_publishes : gives .frameEndPacket (receiving 3072) (fun t =>
    decide ((t.slot 9).state = .ready ∧ (t.slot 9).seq = some 1 ∧ t.sin.lastFrame = some 812 ∧ t.sst.motion = some 0)) =
      true := by decide +kernel
theorem test_frame_end_early : gives .frameEndPacket (receiving 3071) (fun t => decide (t.sin.damaged = 1)) = true := by
  decide

theorem test_unrecognised : exec (.unrecognisedPacket [1, 2]) idle = .next idle := rfl

theorem test_link_loss : gives .linkLossTimerExpiry idle (fun t =>
    decide (t.sin.state = .noSignal ∧ t.sin.timer = none ∧ t.now = 500000 ∧
      t.cp2.notices = [{ kind := .intakeState, contents := [0, 0] }])) = true := by decide

/-! ## Scene statistics (02) -/

theorem test_map_table : [mapEntry false 64 214 218, mapEntry false 64 215 50, mapEntry true 64 215 160,
    mapEntry false 64 160 170, mapEntry false 64 163 240, mapEntry true 64 182 238] = [215, 215, 160, 163, 182, 238] := by
  decide
theorem test_gain_table : [215, 160, 163, 182, 238, 214].map flatteningGain = [304, 408, 400, 359, 274, 305] := by decide
theorem test_detail : tileRecord { sum := 0, blocks := [44080], detail := 35840 } =
    { mean := 0, white := 172, detail := 2240 } := by decide
theorem test_motion_second : motionCount 6 (some [180, 181, 60])
    [⟨185, 0, 0⟩, ⟨175, 0, 0⟩, ⟨60, 0, 0⟩] = 1 := by decide
theorem test_motion_third : motionCount 6 (some [185, 175, 60])
    [⟨179, 0, 0⟩, ⟨175, 0, 0⟩, ⟨120, 0, 0⟩] = 2 := by decide
theorem test_measured_windows : [100, 250, 1600].map (fun z =>
    (measuredTiles (windowOf 4096 3072 1920 1080 z 2048 1536)).length) = [576, 112, 4] := by decide +kernel
theorem test_getScene_part : gives (.getScene .cp0 1 3 0) idle (fun t => decide (lastAnswer .cp0 t = some (.badParam, []))) =
    true := by decide
theorem test_setMotionDelta : gives (.setMotionDelta .cp0 200) idle (fun t =>
    decide (t.sst.delta = 64 ∧ lastAnswer .cp0 t = some (.ok, [64]) ∧ t.cp1.notices = [])) = true := by decide

/-! ## The view (03) -/

theorem test_window_250 : windowOf 4096 3072 1920 1080 250 2048 1536 =
    { x0 := 1229, y0 := 1076, w := 1638, h := 921, cx := 2048, cy := 1536 } := by decide
theorem test_window_corner : windowOf 4096 3072 1920 1080 1600 4000 3000 =
    { x0 := 3840, y0 := 2928, w := 256, h := 144, cx := 3968, cy := 3000 } := by decide
theorem test_window_half : windowOf 4096 3072 960 1080 100 2048 1536 =
    { x0 := 683, y0 := 1, w := 2730, h := 3071, cx := 2048, cy := 1536 } := by decide
theorem test_window_photo_half : ((windowOf 1920 1080 960 1080 1600 960 540).w,
    (windowOf 1920 1080 960 1080 1600 960 540).h) = (60, 67) := by decide

/-- The LIVE view at 2.50 about a point. -/
def at250 (x y : Nat) : State := { idle with vwc := { idle.vwc with live := { zt := 250, zc := 250, qx := x, qy := y } } }

theorem test_nudge : gives (.nudgeView .cp1 50 100 (BitVec.ofInt 16 (-50))) (at250 2048 1536) (fun t =>
    decide (t.vwc.live = { zt := 300, zc := 250, qx := 2133, qy := 1494 } ∧ kinds .cp0 t = [.viewChanged] ∧
      kinds .cp1 t = [])) = true := by decide
theorem test_nudge_corner : gives (.nudgeView .cp1 0 (BitVec.ofInt 16 (-200)) 0) (at250 100 100) (fun t =>
    decide (t.vwc.live = { zt := 250, zc := 250, qx := 649, qy := 460 })) = true := by decide
theorem test_setView : gives (.setView .cp0 5000 65535 65535) idle (fun t =>
    decide (t.vwc.live = { zt := 1600, zc := 100, qx := 4095, qy := 3071 })) = true := by decide
theorem test_setGlide : gives (.setGlide .cp0 201) idle (fun t => decide (t.vwc.glide = 200)) = true := by decide
theorem test_getView : gives (.getView .cp0) idle (fun t =>
    decide ((lastAnswer .cp0 t).map Prod.fst = some .ok ∧ t.vwc = idle.vwc)) = true := by decide
theorem test_glide : ((glideRecord 40 { zt := 150, zc := 180, qx := 0, qy := 0 }).zc,
    (glideRecord 40 { zt := 400, zc := 190, qx := 0, qy := 0 }).zc,
    (glideRecord 0 { zt := 400, zc := 190, qx := 0, qy := 0 }).zc) = (150, 230, 400) := by decide

/-! ## Render arithmetic (04) -/

theorem test_source_position : (sourcePosition 0 1229 1638 1920 4096, sourcePosition 0 1076 921 1080 3072,
    sourcePosition 1919 3840 256 1920 4096, sourcePosition 0 0 256 1920 4096) = (314605, 275437, 1048320, 0) := by decide
theorem test_bilinear : bilinear 237 237 180 200 170 210 = 206 := by decide
theorem test_flattened : (flattened 206 305, flattened 255 1024) = (245, 255) := by decide
theorem test_setEnhance : gives (.setEnhance .cp0 (some 1) (some 40) none (some 0) (some 20)) idle (fun t =>
    decide (t.ren.enh = { flatten := false, sharpen := 31, core := 2, threshold := 1 } ∧ t.sst.floor = 32 ∧
      kinds .cp1 t = [.enhanceChanged])) = true := by decide
theorem test_setEnhance_bad : gives (.setEnhance .cp0 (some 2) (some 9) none none none) idle (fun t =>
    decide (t.ren = idle.ren ∧ lastAnswer .cp0 t = some (.badParam, []))) = true := by decide
theorem test_getEnhance : gives (.getEnhance .cp0) idle (fun t =>
    decide (lastAnswer .cp0 t = some (.ok, [0, 8, 2, 128, 64, 0, 0, 0]))) = true := by decide

/-- CP2's pointer at 104 and CP1's at 64, as in the two ports' table. -/
def toned : State := { idle with cp1 := { openPort with tone := 64 }, cp2 := { openPort with tone := 104 } }

theorem test_loadTone : gives (.loadTone .cp2 100 [1, 2, 3, 4]) idle (fun t =>
    decide (t.cp2.tone = 104 ∧ (t.ren.staging.drop 99).take 6 = [99, 1, 2, 3, 4, 104] ∧ t.ren.active = idle.ren.active)) =
      true := by decide
theorem test_loadToneNext : gives (.loadToneNext .cp2 [9, 9]) toned (fun t =>
    decide (t.cp2.tone = 106 ∧ t.cp1.tone = 64 ∧ (t.ren.staging.drop 103).take 4 = [103, 9, 9, 106])) = true := by decide
theorem test_loadToneNext_end : gives (.loadToneNext .cp0 [1, 2, 3, 4, 5]) { idle with cp0 := { openPort with tone := 256 } }
    (fun t => decide (lastAnswer .cp0 t = some (.ok, [0, 1, 0]) ∧ t.ren = idle.ren)) = true := by decide
theorem test_commitTone : gives (.commitTone .cp0) idle (fun t => decide (t.ren.swap = true)) = true := by decide
theorem test_getTone : gives (.getTone .cp0 0 254 9) idle (fun t =>
    decide (lastAnswer .cp0 t = some (.ok, [0, 254, 2, 254, 255]))) = true := by decide

/-! ## Outputs (05) -/

/-- Slot 5 newest with the projector's scan, slot 4 with the tap's, projector and tap running. -/
def running : State :=
  (({ idle with
      inputs := { idle.inputs with projectorPresent := true, tapReady := true }
      opt := { idle.opt with applied := .t1080 } }).setSlot 4 (sensorSlot 30 4 { scanT := true })).setSlot 5
    (sensorSlot 31 5 { scanP := true })

theorem test_freeze : gives (.freeze .cp0) running (fun t =>
    decide (t.disp = { mode := .frozen, ref := none } ∧ (t.slot 5).holders = { scanP := true, freeze := true } ∧
      kinds .cp1 t = [.displayChanged] ∧ kinds .cp0 t = [])) = true := by decide
theorem test_freeze_none : gives (.freeze .cp0) idle (fun t =>
    decide (lastAnswer .cp0 t = some (.noFrame, []) ∧ t.disp = idle.disp)) = true := by decide
/-- Event 8 of the two pipes' table: the split reference's scan leaves with FREEZE, and the half is black. -/
theorem test_releaseFreeze : gives (.releaseFreeze .cp2) crowded (fun t =>
    decide ((t.slot 0).holders = {} ∧ t.opp.ctx.blackRef = true ∧ t.opt.ctx.blackRef = true ∧ t.disp.mode = .live)) =
      true := by decide
theorem test_split : gives (.split .cp1 0) crowded (fun t =>
    decide (t.disp = { mode := .split, ref := some .freeze } ∧ kinds .cp0 t = [])) = true := by decide
theorem test_showPage : gives (.showPage .cp1) crowded (fun t => decide (t.disp = { mode := .page, ref := none })) = true := by
  decide
theorem test_showLive : gives (.showLive .cp1) crowded (fun t => decide (t.disp = { mode := .live, ref := none })) = true := by
  decide
/-- Event 3 of the occupancy table: the projector's scan moves to slot 6 and keeps slot 0. -/
theorem test_projector_split : gives .projectorFrameStart (crowded.setSlot 6 (sensorSlot 53 60 {})) (fun t =>
    decide ((t.slot 6).holders.scanP = true ∧ (t.slot 5).holders.scanP = false ∧ (t.slot 0).holders.scanP = true ∧
      t.opp.ctx.live = some 6 ∧ t.opp.ctx.reference = some 0)) = true := by decide
theorem test_tap_skips : gives (.tapFrameStart false) { running with skipped := 7 } (fun t =>
    decide (t.skipped = 8 ∧ t.opt.ctx.kind = .skipped ∧ (t.slot 4).holders.scanT = false)) = true := by decide
theorem test_presence_fall : gives .projectorPresentFall running (fun t =>
    decide ((t.slot 5).holders = {} ∧ t.opp.ctx.kind = .none ∧ kinds .cp0 t = [.projectorState])) = true := by decide
theorem test_presence_rise : gives .projectorPresentRise idle (fun t =>
    decide (t.inputs.projectorPresent = true ∧ t.cp1.notices = [{ kind := .projectorState, contents := [1] }])) = true := by
  decide
theorem test_setOutput : gives (.setOutput .cp0 1 2) idle (fun t =>
    decide (t.opp.pending = none ∧ t.opt.pending = some .t1080 ∧ lastAnswer .cp0 t = some (.ok, [1, 0, 0, 1, 2]))) = true := by
  decide
theorem test_getOutput : gives (.getOutput .cp0) idle (fun t =>
    decide ((lastAnswer .cp0 t).map (fun a => a.2.take 5) = some [1, 0, 0, 0, 0] ∧ t.choices = 1)) = true := by decide

/-! ## Focus (06) -/

/-- A coarse search at a lens position after so many steps, its best so far given, with the link idle. -/
def searching (lens steps best bestPos : Nat) (reversed up : Bool) : Focus :=
  { Focus.reset with
    owed := false
    lensPos := lens
    state := .search { Search.reset with
      steps := steps, bestMeasure := some best, bestPos := bestPos, reversed := reversed, up := up, width := 1638, settle := 2 } }

theorem test_coarse_step : (focusOnPublish 1400000 0 1638 24 true (searching 704 3 1420000 640 false true)).link =
    some { pos := 768, attempt := 1, addr := 0x0C } := by decide
theorem test_coarse_peak : (focusOnPublish 1250000 0 1638 24 true (searching 768 4 1420000 640 false true)).link =
    some { pos := 616, attempt := 1, addr := 0x0C } := by decide
theorem test_coarse_reverses : (focusOnPublish 700000 0 1638 24 true (searching 836 1 800000 900 false false)).link =
    some { pos := 900, attempt := 1, addr := 0x0C } := by decide
theorem test_coarse_end : (focusOnPublish 830000 0 1638 24 true (searching 1023 2 850000 964 true true)).link =
    some { pos := 940, attempt := 1, addr := 0x0C } := by decide
theorem test_fine_list : finePositions 640 = [616, 624, 632, 640, 648, 656, 664] := by decide
theorem test_fine_list_end : finePositions 1023 = [999, 1007, 1015, 1023] := by decide
theorem test_best_fine : bestFine [(616, 1390000), (624, 1405000), (632, 1432000), (640, 1420000), (648, 1432000),
    (656, 1401000), (664, 1370000)] = 632 := by decide

/-- The link sends the move to 948, with the lens at 940. -/
def sending (attempt : Nat) : State :=
  { idle with foc := { searching 940 2 850000 964 true true with link := some { pos := 948, attempt := attempt, addr := 0x0C } } }

/-- R99: a byte that is not acknowledged is the last before the stop condition. -/
theorem test_lens_stops : lensTransaction { pos := 948, attempt := 1, addr := 0x0C } [true, false, true] =
    [.start, .byte 0x18 true, .byte 0x03 false, .stop] := by decide
theorem test_lens_retry : gives (.lensTransactionEnd true false true) (sending 1) (fun t =>
    decide (t.foc.link = some { pos := 948, attempt := 2, addr := 0x0C } ∧ t.foc.lensPos = 940)) = true := by decide
theorem test_lens_done : gives (.lensTransactionEnd true true true) (sending 2) (fun t =>
    decide (t.foc.link = none ∧ t.foc.lensPos = 948)) = true := by decide
theorem test_lens_fault : gives .lensClockHoldTimeout (sending 2) (fun t =>
    decide (t.foc.link = none ∧ t.foc.state = .fault ∧ t.foc.lensPos = 940 ∧ kinds .cp2 t = [.focusState])) = true := by
  decide
theorem test_focusAuto : gives (.focusAuto .cp1 none) { idle with foc :=
      { Focus.reset with state := .fault, lensPos := 940, addr := 0x0D, owed := false } } (fun t =>
    decide (t.foc.link = some { pos := 940, attempt := 1, addr := 0x0D } ∧
      t.foc.state = .search { Search.reset with up := false, bestPos := 940 })) = true := by decide
theorem test_focusManual : gives (.focusManual .cp1 2000) idle (fun t =>
    decide (t.foc.state = .parked ∧ t.foc.link = some { pos := 1023, attempt := 1, addr := 0x0C })) = true := by decide
theorem test_setFocusLink : gives (.setFocusLink .cp1 0x0D) idle (fun t =>
    decide (t.foc.addr = 0x0D ∧ kinds .cp1 t = [.focusState])) = true := by decide
theorem test_setFocusLink_bad : gives (.setFocusLink .cp1 0x78) idle (fun t =>
    decide (t.foc = idle.foc ∧ lastAnswer .cp1 t = some (.badParam, []))) = true := by decide
theorem test_getFocus : gives (.getFocus .cp1) idle (fun t => decide ((lastAnswer .cp1 t).map (fun a => a.2.take 4) =
    some [0, 0, 2, 0])) = true := by decide

/-! ## Lamp and idle (07) -/

/-- Level 500, duty and latch as given, the fault input as given. -/
def lamp (duty : Nat) (latch input : Bool) : State :=
  { idle with
    inputs := { idle.inputs with lampFault := input }
    liu := { idle.liu with level := 500, duty := duty, latch := latch }
    sst := { idle.sst with reseed := false } }

theorem test_lamp_period : gives .lampPeriodStart (lamp 500 true true) (fun t =>
    decide (t.liu.duty = 0 ∧ t.sst.reseed = true)) = true := by decide
theorem test_lamp_active : gives .lampFaultActive (lamp 500 false false) (fun t =>
    decide (t.liu.latch = true ∧ t.liu.duty = 500 ∧
      t.cp0.notices = [{ kind := .lampState, contents := [1, 0xF4, 1, 1, 1, 0xF4, 0x10] }])) = true := by decide
theorem test_lamp_inactive : gives .lampFaultInactive (lamp 0 true true) (fun t =>
    decide (t.liu.latch = true ∧ t.inputs.lampFault = false)) = true := by decide
theorem test_setLamp_early : gives (.setLamp .cp1 500) (lamp 0 true true) (fun t =>
    decide (t.liu.latch = true ∧ kinds .cp0 t = [.lampState] ∧ kinds .cp1 t = [])) = true := by decide
theorem test_setLamp : gives (.setLamp .cp1 450) (lamp 0 true false) (fun t =>
    decide (t.liu.latch = false ∧ t.liu.level = 450)) = true := by decide

/-- 29 minutes counted of 30, FOC locked. -/
def nearDoze : State :=
  { idle with
    liu := { idle.liu with minutes := 29, minuteFrom := 5 }
    foc := { Focus.reset with state := .locked { pos := 500, width := 1638, motionSeen := false, quiet := 0 }, wanted := some 3 } }

theorem test_expiry : gives .idleTimerExpiry nearDoze (fun t =>
    decide (t.liu.doze = true ∧ t.liu.minutes = 30 ∧ t.foc.state = .held ∧ t.foc.wanted = none ∧ t.now = 60000005 ∧
      kinds .cp0 t = [.focusState, .idleState])) = true := by decide
theorem test_minute : gives .minuteIntervalElapsed idle (fun t =>
    decide (t.liu.minutes = 1 ∧ t.liu.doze = false)) = true := by decide
theorem test_wake : gives (.wake .cp2) { idle with liu := { idle.liu with doze := true, minutes := 30 } } (fun t =>
    decide (t.liu.doze = false ∧ t.liu.minutes = 0 ∧ t.cp0.notices = [{ kind := .idleState, contents := [0, 2, 30, 0] }])) =
      true := by decide
theorem test_setIdle : gives (.setIdle .cp0 300 (some 0)) idle (fun t =>
    decide (t.liu.timeout = 240 ∧ t.liu.wakeThreshold = 1)) = true := by decide

/-! ## The store bus (08) -/

/-- A device that is READY with a reference ID. -/
def readyDevice : Device := { state := .ready, refId := some (0xA7, 0x41, 0x19) }

/-- Both devices READY, with what waits and runs. -/
def bus (waiting : List WaitingOp) (run : Option Running) : State :=
  { idle with ssq := { idle.ssq with d0 := readyDevice, d1 := readyDevice, waiting := waiting, bus := run } }

/-- An operation of a client on D1. -/
def onD1 (c : Client) (k : OpKind) : WaitingOp := { client := c, op := { dev := .d1, kind := k, addr := 65536 } }

/-- What waits at event 3 of the table of seven clients. -/
def threeWaiting : List WaitingOp :=
  [onD1 (.direct .cp1) (.read 256), onD1 .save (.program (List.replicate 256 0)), onD1 .reclaim .blockErase]

/-- The client the arbiter grants, and what is left waiting. -/
def granted (s : State) : Option BusUser × List Client :=
  ((arbitrate s).ssq.bus.map Running.user, (arbitrate s).ssq.waiting.map WaitingOp.client)

theorem test_rank_direct : granted (bus threeWaiting none) = (some (.client (.direct .cp1)), [.save, .reclaim]) := by decide +kernel
theorem test_rank_save : granted (bus (threeWaiting.drop 1) none) = (some (.client .save), [.reclaim]) := by decide +kernel
/-- A recall with a piece on D1 still to be read. -/
def halfRead : Recall :=
  { page := 0, mode := .text, blocks := [68, 4096], requester := .cp0, display := true, slot := 0, next := 3 }

/-- R141: a recall with a piece on D1 still to be read holds the erase back. -/
theorem test_gate : granted { bus (threeWaiting.drop 2) none with sre := { jobs := [], recalling := some halfRead } } =
    (none, [.reclaim]) := by decide +kernel
theorem test_rotation : granted ((bus [onD1 (.direct .cp0) (.read 1), onD1 (.direct .cp2) (.read 1)] none).modSsq
      fun q => { q with lastDirect := .cp0 }) = (some (.client (.direct .cp2)), [.direct .cp0]) := by decide +kernel

/-- R130: the durations of the table of seven clients, in ns. -/
theorem test_durations : [commandsOf Profile.reset (.read 4096) 0 [], commandsOf Profile.reset (.read 512) 0 [],
    commandsOf Profile.reset (.read 256) 0 [], commandsOf Profile.reset .program 0 (List.replicate 256 0),
    commandsOf Profile.reset .statusPoll 0 []].map (operationTime Profile.reset) =
    [1312320, 165440, 83520, 83840, 640] := by decide +kernel

/-- R127, R130: an erase takes 1.92 µs whatever the lane counts of its two kinds, which have no data phase. -/
theorem test_erase_on_one_lane : [Profile.reset, Profile.reset.setEntry .blockErase
    { Profile.reset.blockErase with commandLanes := 4, addressLanes := 2, dataLanes := 4 }].map (fun f =>
    operationTime f (commandsOf f .blockErase 65536 [])) = [1920, 1920] := by decide +kernel

/-- What runs on the bus for a device. -/
def runOn (d : DevId) (user : BusUser) (k : RunKind) : Running :=
  { user := user, dev := d, kind := k, addr := 65536, sent := [], wanted := true }

/-- A program on D1 that ended on the bus at 0. -/
def atWork (client : Option Client) (late nextPoll : Option Nat) : BusyRecord :=
  { kind := .program, client := client, addr := 65536, start := 0, deadline := 5000, late := late, nextPoll := nextPoll
    recheck := false }

theorem test_program_end : gives (.programEraseBusEnd 0) (bus [] (some (runOn .d1 (.client .save) .program))) (fun t =>
    decide ((t.device .d1).state = .busy (atWork (some .save) none (some 50)) ∧ t.ssq.bus = none)) = true := by decide +kernel

/-- D1 BUSY with a program that ended at 0, a poll of it running. -/
def polled (late : Option Nat) (recheck : Bool) (run : Option Running) : State :=
  let b : BusyRecord := { atWork (some .save) late (some 5000) with recheck := recheck }
  (bus [] run).setDevice .d1 { readyDevice with state := .busy b }

theorem test_poll_due : gives (.pollDue .d1) (polled none false none) (fun t =>
    decide (t.ssq.bus.map (fun r => (r.user, r.kind)) = some (.poll, .statusPoll) ∧ t.now = 5000)) = true := by decide +kernel
/-- R136, R139: after a reset both polls are due at one moment, and D0's goes first. -/
theorem test_poll_due_both : gives (.pollDue .d1) State.reset (fun t =>
    decide (t.ssq.bus.map (fun r => (r.dev, r.kind)) = some (.d0, .statusPoll) ∧
      t.ssq.due = [{ dev := .d1, recheck := false }])) = true := by decide +kernel
theorem test_poll_timeout : gives (.statusPollEnd 5040 1) (polled none false (some (runOn .d1 .poll .statusPoll))) (fun t =>
    decide ((t.device .d1).state = .busy (atWork none (some 3005040) (some 5090)) ∧
      t.cp0.notices = [{ kind := .storeFault, contents := [1, 0x10, 1, 0, 1, 0, 1, 0, 0, 2] }])) = true := by decide +kernel
theorem test_poll_again : gives (.statusPollEnd 4990 1) (polled none false (some (runOn .d1 .poll .statusPoll))) (fun t =>
    decide ((t.device .d1).state.code = 2 ∧ t.cp0.notices = [])) = true := by decide +kernel
theorem test_recheck_due : gives (.statusPollEnd 40000 0) (polled (some 3005040) false (some (runOn .d1 .poll .statusPoll)))
    (fun t => decide (t.ssq.bus.map (fun r => (r.user, r.kind)) = some (.recheck, .idRead))) = true := by decide +kernel
theorem test_recheck_changed : gives (.idRecheckEnd 0xFF 0xFF 0xFF) (polled none true (some (runOn .d1 .recheck .idRead)))
    (fun t => decide ((t.device .d1).state = .faulted .idChanged false ∧ kinds .cp0 t = [.storeFault])) = true := by decide +kernel
theorem test_recheck_same : gives (.idRecheckEnd 0xA7 0x41 0x19) (polled none true (some (runOn .d1 .recheck .idRead)))
    (fun t => decide ((t.device .d1).state = .ready)) = true := by decide +kernel
theorem test_setStoreProfile : gives (.setStoreProfile .cp0 { noFields with divider := some 1, pollInterval := some 5000 }
    [wholeEntry 0]) idle (fun t => decide (t.ssq.profile.divider = 2 ∧ t.ssq.profile.pollInterval = 1000 ∧
      t.ssq.profile.read.code = 0)) = true := by decide +kernel
theorem test_setStoreProfile_bad : gives (.setStoreProfile .cp0 noFields [wholeEntry 0, wholeEntry 6]) idle (fun t =>
    decide (t.ssq.profile = Profile.reset ∧ lastAnswer .cp0 t = some (.badParam, []))) = true := by decide +kernel
theorem test_getStoreProfile : gives (.getStoreProfile .cp0) idle (fun t =>
    decide ((lastAnswer .cp0 t).map (fun a => a.2.take 7) = some [8, 0x13, 1, 1, 1, 4, 0])) = true := by decide +kernel

/-! ## The catalogue (09) -/

/-- A MOUNTED store on both devices: lesson 0 LIVE with two pages, page 0 STORED in it on blocks 68 to 83, the cursor
at 182, blocks 182 to 200 FREE. -/
def mountedCat : Catalogue :=
  { Catalogue.reset with
    store := .mounted, lastMount := .mounted, present0 := true, present1 := true
    lessons := Catalogue.reset.lessons.setIfInBounds 0 { state := .live, name := [0x41], count := 2 }
    pages := Catalogue.reset.pages.setIfInBounds 0
      { state := .stored, lesson := 0, seq := 2, mode := .text, blocks := (List.range 16).map (68 + ·), saveSeq := 40 }
    blocks := ((List.range 19).map (182 + ·)).foldl (fun v g => v.setIfInBounds g (some .free)) Catalogue.reset.blocks
    cursor := some 182, reserved := some 0, saveSeq := some 47 }

/-- The part with that store, and CP0's current lesson 0. -/
def mounted : State := { bus [] none with cat := mountedCat, cp0 := { openPort with lesson := some 0 } }

theorem mounted_serves (p : PortId) : Serves p mounted := by
  cases p <;> exact ⟨rfl, rfl, by decide, rfl⟩

theorem test_mount : gives (.mount .cp0) idle (fun t =>
    decide (t.cat.store = .mounting ∧ lastAnswer .cp0 t = some (.accepted, []) ∧ kinds .cp1 t = [.storeState] ∧
      t.ssq.waiting.map WaitingOp.client = [.mount])) = true := by decide +kernel
theorem test_probe_d1 : gives (.probeIdReadEnd 0xA7 0x41 0x19)
    { bus [] (some (runOn .d0 (.client .mount) .idRead)) with
      cat := { Catalogue.reset with store := .mounting, mount := some { stage := .probe .d0, requester := none } } }
    (fun t => decide (t.cat.present0 = true ∧ t.cat.mount.map Mount.stage = some (.probe .d1) ∧
      t.ssq.bus.map (fun r => (r.dev, r.kind)) = some (.d1, .idRead))) = true := by decide +kernel
theorem test_area_read : gives (.readEnd (List.replicate 256 0xFF))
    { bus [] (some (runOn .d0 (.client .mount) (.read 256))) with
      cat := { Catalogue.reset with store := .mounting, mount := some { stage := .area 3, requester := none } } }
    (fun t => decide (t.cat.mount.map Mount.stage = some (.area 4) ∧
      t.ssq.bus.map (fun r => (r.kind, r.addr)) = some (.read 256, 4 * 4096))) = true := by decide +kernel
theorem test_unmount : gives (.unmount .cp1) mounted (fun t =>
    decide (t.cat.store = .unmounted ∧ t.cp0.lesson = none ∧ t.cat.lastMount = .mounted ∧ kinds .cp0 t = [.storeState])) =
      true := by decide +kernel
theorem test_storeStatus : gives (.storeStatus .cp1) idle (fun t => decide ((lastAnswer .cp1 t).map (fun a => a.2.take 6) =
    some [0, 0, 2, 0, 0, 2])) = true := by decide +kernel
/-- The addresses of the operations that wait for the bus. -/
def waits (s : State) : List (Client × Nat) := s.ssq.waiting.map fun w => (w.client, w.op.addr)

theorem test_newLesson : (let t := takeNewLesson .cp1 [0x41, 0x42] mounted
    decide ((t.lesson 1).state = .rewriting ∧ lastAnswer .cp1 t = some (.accepted, [1, 2, 0x41, 0x42]) ∧
      waits t = [(.writer, 4096)])) = true := by decide +kernel
theorem test_newLesson_bad : (let t := takeNewLesson .cp1 [0x7F] mounted
    decide (lastAnswer .cp1 t = some (.badParam, []) ∧ t.cat.tasks = [])) = true := by decide +kernel
theorem test_selectLesson : gives (.selectLesson .cp1 0) mounted (fun t => decide (t.cp1.lesson = some 0)) = true := by
  decide +kernel
theorem test_selectLesson_none : gives (.selectLesson .cp0 0xFF) mounted (fun t =>
    decide (t.cp0.lesson = none ∧ lastAnswer .cp0 t = some (.ok, [0]))) = true := by decide +kernel
theorem test_setLessonLock : (let t := takeSetLessonLock .cp1 0 1 mounted
    decide ((t.lesson 0).state = .rewriting ∧ (t.lesson 0).lock = true ∧
      t.ssq.waiting.map (fun w => w.op.kind) = [.sectorErase])) = true := by decide +kernel
theorem test_deletePage : (let t := takeDeletePage .cp1 0 mounted
    decide ((t.page 0).state = .retiring ∧ (t.lesson 0).count = 1 ∧ lastAnswer .cp1 t = some (.ok, []) ∧
      kinds .cp0 t = [.catalogueChanged] ∧ waits t = [(.writer, 64 * 4096)])) = true := by decide +kernel
theorem test_wipeLesson : (let t := takeWipeLesson .cp1 0 (mounted.setLesson 0 { mounted.lesson 0 with lock := true })
    decide (lastAnswer .cp1 t = some (.lessonLocked, []) ∧ t.cat.tasks = [])) = true := by decide +kernel
theorem test_listLessons : gives (.listLessons .cp1 0) mounted (fun t =>
    decide (lastAnswer .cp1 t = some (.ok, [1, 0, 1, 1, 0x41, 0, 0, 2, 0]))) = true := by decide +kernel
theorem test_listPages : gives (.listPages .cp1 1 3) mounted (fun t =>
    decide (lastAnswer .cp1 t = some (.noSuchLesson, []))) = true := by decide +kernel

/-- R175, R196: the fixed bytes of a page record body. -/
theorem test_page_body : (pageBody 3 { state := .writing, lesson := 0, seq := 3, mode := .text, blocks := [182, 183], saveSeq := 47 }).take
    34 = [0, 3, 0, 0, 3, 0, 0x0F, 0x00, 0x08, 0x70, 0x00, 0x0F, 0xD2, 0x00, 16, 0, 0, 0, 47, 0, 0, 0, 0, 0, 0, 0, 0, 0, 0, 0,
      0, 182, 0, 183] := by decide +kernel
theorem test_recovered_name : recoveredName 1 = [0x4C, 0x45, 0x53, 0x53, 0x4F, 0x4E, 0x20, 0x30, 0x31] := by decide +kernel

/-! ## Saving and recalling (10) -/

/-- FROZEN on slot 5. -/
def frozen : State :=
  { mounted.setSlot 5 (sensorSlot 12 5 { freeze := true, scanP := true, scanT := true }) with
    disp := { mode := .frozen, ref := none } }

theorem test_savePage_bad : gives (.savePage .cp0 2) frozen (fun t => decide (lastAnswer .cp0 t = some (.badParam, []))) = true := by
  decide +kernel
theorem test_savePage_noLesson : gives (.savePage .cp1 0) frozen (fun t =>
    decide (lastAnswer .cp1 t = some (.noLesson, []) ∧ t.sre.jobs = [])) = true := by decide +kernel
theorem test_save_source : (saveSource frozen, captureView .text 5 frozen) =
    (some 5, { kind := .sensor, zc := 100, cx := 2048, cy := 1536 }) := by decide +kernel

/-- A TEXT job in WRITING at the last program of a position, on blocks from 182 on. -/
def writing (nextPage done relocations remaining : Nat) (blocks : List Nat) : State :=
  let j : Job :=
    { state := .writing, requester := .cp0, lesson := 0, page := 3, seq := 3, saveSeq := 47, mode := .text, source := none
      view := { kind := .sensor, zc := 100, cx := 2048, cy := 1152 }, enh := idle.ren.enh, tone := identityTone
      buffer := some 0, blocks := blocks, done := done, nextPage := nextPage, relocations := relocations
      remaining := remaining, marks := [] }
  { mounted with
    cat := { mountedCat with
      pages := mountedCat.pages.setIfInBounds 3 { state := .writing, seq := 3, saveSeq := 47 }
      cursor := some 187
      reserved := some remaining }
    liu := { mounted.liu with hold := true }
    sre := { jobs := [j], recalling := none } }

/-- The blocks, position, relocations and remaining reservation of the jobs. -/
def progress (s : State) : List (List Nat × Nat × Nat × Nat × JobState) :=
  s.sre.jobs.map fun j => (j.blocks, j.done, j.nextPage, j.relocations, j.state)

/-- Event 4: program page 99 of block 186 times out. -/
theorem test_save_timeout : (let t := saveResult .timeout (writing 99 4 0 11 [182, 183, 184, 185, 186])
    decide (progress t = [([182, 183, 184, 185, 187], 4, 0, 1, .writing)] ∧ t.block 186 = some .bad ∧
      t.cat.reserved = some 10 ∧ t.ssq.waiting.map (fun w => w.op.addr) = [187 * 65536])) = true := by decide +kernel
/-- Event 7: the 210th program of the last block completes. -/
theorem test_save_last : (let t := saveResult (.done []) (writing 209 15 1 0 ((List.range 16).map (182 + ·)))
    decide (progress t = [((List.range 16).map (182 + ·), 16, 209, 1, .committing)] ∧
      t.cat.tasks.map Task.kind = [.pageCommit 3])) = true := by decide +kernel
/-- Event 8: the commit is DONE. -/
theorem test_commit_done : (let t := commitEnds 3 true (.done []) (writing 209 16 1 0 [182])
    decide (t.sre.jobs = [] ∧ (t.page 3).state = .stored ∧ (t.lesson 0).count = 3 ∧ t.liu.hold = false ∧
      t.cp0.notices = [{ kind := .saveDone, contents := [0, 3, 0, 0, 3] }] ∧ kinds .cp1 t = [.catalogueChanged])) = true := by
  decide +kernel
theorem test_programs : (programsIn .text 14, programsIn .text 15, pieceBytes .text 253, pieceCount .photo) =
    (256, 210, 512, 760) := by decide +kernel

/-- Event 9: a recall starts in the lowest FREE slot. -/
theorem test_recallPage : (let t := startRecall .cp1 0 true 1 (mounted.setSlot 0 (sensorSlot 3 3 { freeze := true }))
    decide ((t.page 0).pins = 1 ∧ t.slot 1 = { state := .loading, kind := some .pageText, page := some 0 } ∧
      lastAnswer .cp1 t = some (.accepted, [0, 0, 1]) ∧
      waits t = [(.recallReader, 68 * 65536)])) = true := by decide +kernel

/-- A recall at its last piece, in slot 1. -/
def lastPiece : State :=
  let r : Recall :=
    { page := 0, mode := .text, blocks := (List.range 16).map (68 + ·), requester := .cp1, display := true, slot := 1, next := 253 }
  { (pinPage 0 mounted).setSlot 1 { state := .loading, kind := some .pageText, page := some 0 } with
    liu := { mounted.liu with hold := true }
    sre := { jobs := [], recalling := some r } }

/-- Event 11: the last piece ends. -/
theorem test_recall_done : (let t := recallResult (.done []) lastPiece
    decide (t.sre.recalling = none ∧ (t.page 0).pins = 0 ∧ (t.slot 1).state = .ready ∧ (t.slot 1).holders = { page := true } ∧
      t.disp.mode = .page ∧ t.vwc.page = { zt := 100, zc := 100, qx := 1920, qy := 1080 } ∧ t.liu.hold = false ∧
      kinds .cp1 t = [.displayChanged, .viewChanged, .recallDone] ∧ kinds .cp0 t = [.displayChanged, .viewChanged])) = true := by
  decide +kernel
theorem test_readPageData : (let t := takeReadPageData .cp2 0 65500 300 mounted
    decide (t.cp2.direct = some { page := 0, offset := 65500, length := 256, got := [] } ∧ t.cp2.answers = [] ∧
      t.ssq.waiting.map (fun w => (w.op.kind, w.op.addr)) = [(.read 36, 68 * 65536 + 65500)])) = true := by decide +kernel
theorem test_saveRenderEnd_idle : gives .saveRenderEnd idle (fun t => decide (t.sre = idle.sre ∧ t.fst = idle.fst)) = true := by
  decide +kernel

/-! ## The control ports (11) -/

theorem test_poll : gives (.poll .cp0 ⟨2, true⟩) idle (fun t => decide (t.out0 = [1, 0, 0])) = true := by decide +kernel
theorem test_sendRequest : gives (.sendRequest .cp1 ⟨[0x12, 2, 0, 40], true⟩) idle (fun t =>
    decide (t.vwc.glide = 40 ∧ t.out1 = [1, 0, 0, 0, 0])) = true := by decide +kernel
/-- CP0 with an answer of 22 bytes of data, and a request queued behind three more answers. -/
def answered : State :=
  { idle with cp0 := { openPort with
      answers := [⟨.ok, 3, [7]⟩, ⟨.ok, 3, [7]⟩, ⟨.ok, 3, [7]⟩, ⟨.ok, 3, [7]⟩], requests := [⟨0x12, [0, 9]⟩] } }

theorem test_fetchAnswer : gives (.fetchAnswer .cp0 ⟨7, true⟩) answered (fun t =>
    decide (t.out0 = [3, 1, 3, 0, 1, 7, 0, 0] ∧ t.vwc.glide = 9 ∧ t.cp0.answers.length = 4 ∧ t.cp0.requests = [])) = true := by
  decide +kernel
theorem test_unknownType : gives (.unknownTransactionType .cp0 3 ⟨1, true⟩) idle (fun t =>
    decide (t.cp0.discarded = 1 ∧ t.out0 = [1, 0])) = true := by decide +kernel
theorem test_unknownType_alone : gives (.unknownTransactionType .cp0 3 ⟨0, true⟩) idle (fun t =>
    decide (t.cp0 = idle.cp0 ∧ t.out0 = [1])) = true := by decide +kernel
/-- R196: the type bytes of the three transactions. -/
theorem test_transaction_types : [0x00, 0x01, 0x02, 0x03].map TransactionKind.ofType = [.poll, .send, .fetch, .unknown] := by
  decide
theorem test_badRequest : gives (.badRequest .cp0 0x99 [1]) idle (fun t =>
    decide (t.cp0.answers = [⟨.badRequest, 0x99, []⟩])) = true := by decide +kernel
theorem test_status : gives (.status .cp0) { idle with cp0 := { openPort with lost := true } } (fun t =>
    decide ((lastAnswer .cp0 t).map (fun a => (a.2.length, a.2.getLast?)) = some (22, some 1) ∧ t.cp0.lost = false)) = true := by
  decide +kernel

/-- The notice queue of the pressure table after its event 2: 16 notices, a VIEW_CHANGED in the sixth place. -/
def pressed : State :=
  let fill (n : Nat) : List Notice := List.replicate n { kind := .lampState, contents := [] }
  { idle with cp0 := { openPort with
      notices := fill 5 ++ [{ kind := .viewChanged, contents := [] }] ++ fill 9 ++ [{ kind := .outputChanged, contents := [] }] } }

theorem test_notice_pushed : (let t := post .cp0 { kind := .focusState, contents := [] } pressed
    decide (t.cp0.notices.length = 16 ∧ t.cp0.lost = true ∧ (t.cp0.notices[4]?).map Notice.kind = some .viewChanged)) = true := by
  decide +kernel
theorem test_notice_coalesced : (let t := post .cp0 { kind := .viewChanged, contents := [1] } pressed
    decide (t.cp0.notices.length = 16 ∧ t.cp0.lost = false ∧ t.cp0.notices[5]? = some ⟨.viewChanged, [1]⟩)) = true := by decide +kernel
theorem test_nextNotice : gives (.nextNotice .cp0) pressed (fun t =>
    decide (t.cp0.notices.length = 15 ∧ lastAnswer .cp0 t = some (.ok, [15, 0x0A, 0]))) = true := by decide +kernel
theorem test_attention : (attention { pressed.cp0 with mark := 15 }, attention { pressed.cp0 with mark := 16 }) =
    (true, false) := by decide +kernel
theorem test_setAttentionMark : gives (.setAttentionMark .cp0 99) idle (fun t => decide (t.cp0.mark = 15)) = true := by decide +kernel
theorem test_portReset : gives (.portReset .cp0) pressed (fun t =>
    decide (t.cp0.notices = [] ∧ t.cp0.busy = true ∧ t.cp0.resetInput = true)) = true := by decide +kernel
theorem test_portResetRelease : gives (.portResetRelease .cp0) { idle with cp0 := clearedPort none } (fun t =>
    decide (t.cp0.busyFrom = some 0 ∧ t.cp0.resetInput = false)) = true := by decide +kernel
theorem test_portBusyEnd : gives (.portBusyEnd .cp0) State.reset (fun t =>
    decide (t.cp0.busy = false ∧ t.now = 2000 ∧ t.cp1.busy = true)) = true := by decide +kernel
theorem test_resetDevice : gives (.resetDevice .cp1) frozen (fun t =>
    decide (t.slot 5 = {} ∧ t.disp.mode = .live ∧ t.cat.store = .mounting ∧
      t.cp0.notices = [{ kind := .deviceReset, contents := [0x11, 1] }])) = true := by decide +kernel
theorem test_powerOnReset : gives .powerOnReset frozen (fun t =>
    decide (t.slot 5 = {} ∧ t.cat.store = .unmounted ∧ t.cp2.notices = [{ kind := .deviceReset, contents := [0x10] }])) = true := by
  decide +kernel


/-! ## What the pins carry -/

/-- R76: a frame without active pixels is black with data-valid low, its marks as ever; the totals end a line. -/
theorem test_bus_none : (projectorBus idle 0 0, projectorBus idle 1919 1079, projectorBus idle 2200 0) =
    (some { frameMark := true, lineMark := true, dataValid := false, chroma := 128, luma := 16 },
     some { frameMark := false, lineMark := false, dataValid := false, chroma := 128, luma := 16 }, none) := by decide +kernel
theorem test_bus_black : (let s := { idle with opp := { idle.opp with ctx := blackContext } }
    ((projectorBus s 1919 1079).map BusPosition.dataValid, (projectorBus s 1920 0).map BusPosition.dataValid)) =
    (some true, some false) := by decide +kernel
theorem test_lamp_output : [0, 499, 500, 1023].map (lampHigh (lamp 500 false false).liu) = [true, true, false, false] := by
  decide +kernel
/-- R130: a status poll sends its code on lane 0, the most significant bit first, and receives on lane 1. -/
theorem test_bus_lanes : (let l := (commandsOf Profile.reset .statusPoll 0 []).flatMap (commandPhases .d1)
    (l.length, (l.take 8).map BusClock.driven, (l.drop 8).map BusClock.sampled)) =
    (16, [false, false, false, false, false, true, false, true].map fun b => [(0, b)], List.replicate 8 [1]) := by
  decide +kernel

/-- R146: a sector erase of a lesson that times out sets its deferred flag. -/
theorem test_rewrite_timeout : (let t := writerResult .timeout { mounted with cat := { mountedCat with
      tasks := [{ kind := .lessonRewrite 0 (some (.cp1, true)), stage := .erase, granted := false }] } }
    decide ((t.lesson 0).deferred = true ∧ (t.lesson 0).state = .live ∧ (t.lesson 0).lock = true ∧ t.cat.tasks = [])) = true := by
  decide +kernel
theorem test_getScene_tiles : gives (.getScene .cp0 2 0 0) crowded (fun t =>
    decide ((lastAnswer .cp0 t).map (fun a => (a.2.length, a.2.take 7)) = some (131, [0, 5, 32, 180, 200, 0, 40]))) = true := by
  decide +kernel

/-- What comes after a command that completes. -/
def andAfter (c : Instr) (s : State) : State :=
  match exec c s with
  | .next t => t
  | .fault _ => s
  | .refused _ => s

theorem test_sendRequest_parts : gives (.sendRequest .cp1 ⟨[0x12, 2, 0], true⟩) idle (fun t =>
      decide (t.cp1.discarded = 1 ∧ t.vwc = idle.vwc)) = true ∧
    gives (.sendRequest .cp1 ⟨[0, 40], true⟩) (andAfter (.sendRequest .cp1 ⟨[0x12, 2], false⟩) idle) (fun t =>
      decide (t.vwc.glide = 40 ∧ t.out1 = [1, 0, 0, 0, 0] ∧ t.cp1.transfer = none)) = true := by decide +kernel
/-- A fetch that chip select ends early leaves its answer; one that a reset cuts off shifts out 0x00 (R193). -/
theorem test_fetchAnswer_cut : gives (.fetchAnswer .cp0 ⟨4, true⟩) answered (fun t =>
      decide (t.cp0 = answered.cp0 ∧ t.out0 = [3, 1, 3, 0, 1])) = true ∧
    gives (.fetchAnswer .cp0 ⟨2, true⟩) (andAfter (.portReset .cp0) (andAfter (.fetchAnswer .cp0 ⟨2, false⟩) answered)) (fun t =>
      decide (t.out0 = [3, 1, 3, 0, 0] ∧ t.cp0.answers = [] ∧ t.cp0.transfer = none)) = true := by decide +kernel

/-! ## Witnesses: for each statement with hypotheses, a state and operands that meet them, clause by clause -/

theorem witness_StepRunsFrontCommand : idle.pending = [] := rfl

theorem witness_SensorFrameStartTakesSlot :
    (idle.sin.state = .waitFrame ∧ chooseSlot idle = some 0) ∧
    (({ idle with sin := { idle.sin with state := .noSignal } } : State).sin.state = .noSignal ∧
      chooseSlot { idle with sin := { idle.sin with state := .noSignal } } = some 0) ∧
    ((receiving 7).sin.state = .receiving ∧ fillingNumber (receiving 7) = some 9 ∧
      chooseSlot (damagedFrame 9 (receiving 7)) = some 0) := by decide +kernel

theorem witness_SlotChoiceTakesLowestFreeOrOldest :
    chooseSlot idle = some 0 ∧ chooseSlot (crowded.setSlot 6 (sensorSlot 53 60 {})) = some 8 ∧
    chooseSlot { idle with fst := { idle.fst with slots := Vector.replicate 10 (sensorSlot 3 3 { scanP := true }) } } = none ∧
    newestReady crowded = some 5 ∧ newestReady idle = none := by decide

/-- Receiving into slot 9 after so many concealed lines. -/
def concealing (line k : Nat) : State :=
  (receiving line).setSlot 9 { (receiving line).slot 9 with concealed := some k }

theorem zeros_getD (n i : Nat) : (List.replicate n (0 : Byte)).getD i 0 = 0 := by
  rw [List.getD_eq_getElem?_getD, List.getElem?_replicate]
  split <;> rfl

theorem zeros_sum (n : Nat) (l : List Nat) : (l.map fun i => ((List.replicate n (0 : Byte)).getD (2 * i) 0).toNat * 256 +
    ((List.replicate n (0 : Byte)).getD (2 * i + 1) 0).toNat).sum = 0 := by
  induction l with
  | nil => rfl
  | cons i l ih => rw [List.map_cons, List.sum_cons, ih, zeros_getD, zeros_getD]; rfl

theorem sound_zero_line : SoundLine 4096 (List.replicate 8192 0) 0 :=
  ⟨rfl, List.length_replicate, by rw [zeros_sum]; rfl⟩

theorem not_sound_short (l : List Byte) (c : Half) : ¬ SoundLine 4095 l c := fun h => by cases h.1

theorem witness_LinePacketWritesConcealsOrDamages :
    (∀ line ∈ [0, 3071, 3072], ∀ k ∈ [0, 7, 8], (concealing line k).sin.state = .receiving ∧
      fillingNumber (concealing line k) = some 9 ∧ line = (concealing line k).sin.expected ∧
      (((concealing line k).slot 9).concealed).getD 0 = k) ∧
    SoundLine 4096 (List.replicate 8192 0) 0 ∧ ¬ SoundLine 4095 [] 0 :=
  ⟨by decide, sound_zero_line, not_sound_short _ _⟩

/-- Receiving into slot 9 with the publish counter as given. -/
def publishing (line counter : Nat) : State :=
  { receiving line with fst := { (receiving line).fst with counter := counter } }

theorem witness_FrameEndPublishesCompleteFrame :
    (∀ line ∈ [3071, 3072], (publishing line 4294967294).sin.state = .receiving ∧
      fillingNumber (publishing line 4294967294) = some 9 ∧ (publishing line 4294967294).sin.expected = line ∧
      (publishing line 4294967294).fst.counter < 4294967295) ∧
    (idle.inputs.projectorPresent = false ∧ idle.opt.applied = .off) := by decide

theorem witness_LinkLossEntersNoSignal :
    (idle.sin.state ≠ .receiving ∧
      ({ idle with sin := { idle.sin with state := .noSignal } } : State).sin.state = .noSignal) ∧
    (idle.sin.state ≠ .noSignal ∧ idle.sin.timer = some 0 ∧ fillingNumber idle = none) ∧
    ((receiving 9).sin.state ≠ .noSignal ∧ (receiving 9).sin.timer = some 0 ∧ fillingNumber (receiving 9) = some 9) := by
  decide

/-- The publish counter at its top, slots 0 and 5 to 9 READY among others. -/
def atTop : FrameStore := { crowded.fst with counter := 4294967295 }

theorem witness_RenumberingKeepsPublishOrder :
    ({ atTop with counter := 4294967294 } : FrameStore).counter < 4294967295 ∧ atTop.counter = 4294967295 ∧
    atTop.slots[(0 : Fin 10)].state = .ready ∧ atTop.slots[(9 : Fin 10)].state = .ready ∧
    atTop.slots[(0 : Fin 10)].seq.getD 0 < atTop.slots[(9 : Fin 10)].seq.getD 0 ∧
    atTop.slots[(6 : Fin 10)].state ≠ .ready := by decide

theorem witness_TileRecordIsTrueMeanWhiteDetail :
    (∀ y x : Nat, (fun y x => if y = x then 255 else 0) y x ≤ 255) ∧ 31 < 32 ∧ 23 < 24 :=
  ⟨fun y x => by dsimp only; split <;> decide, by decide, by decide⟩

theorem witness_PublishUpdatesMapMeansAndMotion :
    (let record := List.replicate 768 (TileStat.mk 180 64 40)
     let first : Statistics := { Statistics.reset with map := List.replicate 768 32 }
     record.length = 768 ∧ first.map.length = 768 ∧ first.prev = none ∧ first.map[767]? = some 32 ∧
      record[767]? = some { mean := 180, white := 64, detail := 40 } ∧
      ({ first with prev := some (List.replicate 768 0) } : Statistics).prev = some (List.replicate 768 0) ∧
      (List.replicate 768 0).length = 768) ∧
    (∀ w ∈ [32, 255], 32 ≤ w ∧ w ≤ 255) ∧ (32 ≤ 63 ∧ 63 ≤ 64 ∧ 64 ≤ 255) := by decide +kernel

theorem witness_SceneRequestsReportStatistics :
    Serves .cp0 idle ∧ (∀ item ∈ [(0 : Byte), 2], item.toNat ≤ 2) ∧ 2 < (3 : Byte).toNat ∧ (23 : Byte).toNat ≤ 23 ∧
    23 < (24 : Byte).toNat ∧ 1 < (2 : Byte).toNat ∧ newestReady (requestTaken .cp0 crowded) = some 5 ∧
    newestReady (requestTaken .cp0 idle) = none ∧ holderSlot (requestTaken .cp0 crowded) .freeze = some 0 ∧
    holderSlot (requestTaken .cp0 idle) .freeze = none ∧ Serves .cp0 crowded :=
  ⟨idle_serves _, by decide, by decide, by decide, by decide, by decide, by decide, by decide, by decide, by decide,
    rfl, rfl, by decide, rfl⟩

theorem witness_WindowInsideSourceAndGlideReachesTarget :
    (∀ z ∈ [100, 204800], 0 < 1920 ∧ 0 < 1080 ∧ 100 ≤ z ∧ 2 * z ≤ min 4096 (3072 * 1920 / 1080) * 100) ∧
    (let w := windowOf 4096 3072 1920 1080 250 2048 1536
     w.w / 2 ≤ 2048 ∧ 2048 ≤ 4096 - w.w / 2 ∧ w.h / 2 ≤ 1536 ∧ 1536 ≤ 3072 - w.h + w.h / 2) ∧ 250 ≤ 1600 ∧
    (0 < 1 ∧ 100 ≤ 1600 ∧ 1600 ≤ 1600 ∧ 100 ≤ 100 ∧ 100 ≤ 1500) := by decide

/-- PAGE shown, its view on a TEXT page. -/
def paged : State :=
  { idle with disp := { mode := .page, ref := none }, vwc := { idle.vwc with geom := some .text } }

theorem paged_serves (p : PortId) : Serves p paged := by cases p <;> exact ⟨rfl, rfl, (Nat.succ_pos 3 : 0 < 4), rfl⟩

theorem witness_ViewRequestsTakeClampedValues :
    (Serves .cp0 idle ∧ (requestTaken .cp0 idle).disp.mode ≠ .page) ∧
    (∀ p, Serves p paged) ∧ (requestTaken .cp0 paged).disp.mode = .page ∧ (requestTaken .cp0 paged).vwc.geom = some .text :=
  ⟨⟨idle_serves _, by decide⟩, paged_serves, by decide, by decide⟩

/-- A render of an erased SENSOR slot onto a raster of 1920 by 1080. -/
def smallRender (kind : SlotKind) (flatten : Bool) (sharpen : Nat) : RenderInput :=
  { mem := [], base := 0, kind := kind, window := windowOf kind.width kind.height 1920 1080 100 0 0, wo := 1920, ho := 1080
    enh := { flatten := flatten, sharpen := sharpen, core := 2, threshold := 128 }
    tone := identityTone, paper := fun _ => List.replicate 768 255 }

theorem witness_SharpeningFollowsBlurAndCore :
    (∀ r ∈ [smallRender .sensor true 31, smallRender .sensor true 0, smallRender .pageText true 8], 1919 < r.wo ∧ 1079 < r.ho) ∧
    ((smallRender .sensor true 31).kind = .sensor ∧ 0 < (smallRender .sensor true 31).enh.sharpen ∧
      (smallRender .sensor true 31).enh.sharpen ≤ 31) ∧
    ((smallRender .pageText true 8).kind ≠ .sensor ∧ (smallRender .sensor true 0).enh.sharpen = 0) := by simp [smallRender]

theorem witness_InterpolationAveragesAndPagesBypassTheRest :
    ((sourcePosition 1919 3840 256 1920 4096 / 256 = 4095 ∧ 0 < 4096) ∧ (255 < 256 ∧ ∀ a ∈ [0, 255], a ≤ 255)) ∧
    (smallRender .pagePhoto true 8).kind ≠ .sensor ∧
    ((smallRender .sensor false 0).kind = .sensor ∧ (smallRender .sensor false 0).enh.flatten = false ∧
      (smallRender .sensor false 0).enh.sharpen = 0) := ⟨by decide, by simp [smallRender]⟩

theorem witness_TextImageDecodesToThresholdedPage : 0 < 1036800 ∧ 1036799 < 1036800 := by decide

theorem witness_EnhanceRequestsClampAndReport :
    Serves .cp0 idle ∧ ((none : Option Byte) = none ∧ some (0 : Byte) = some 0 ∧ some (1 : Byte) = some 1) ∧
    (some (2 : Byte) = some 2 ∧ 1 < (2 : Byte).toNat) := ⟨idle_serves _, by decide, by decide⟩

theorem witness_ToneRequestsLoadCommitAndReport :
    Serves .cp0 idle ∧ idle.ren.staging.length = 256 ∧
    (∀ n ∈ [1, 64], 1 ≤ (List.replicate n (7 : Byte)).length ∧ (List.replicate n (7 : Byte)).length ≤ 64) ∧
    (255 : Half).toNat ≤ 255 ∧ 255 < (256 : Half).toNat ∧ (idle.port .cp0).tone ≤ 256 ∧
    ({ openPort with tone := 256 } : Port).tone ≤ 256 ∧ (1 : Byte).toNat ≤ 1 ∧ 1 < (2 : Byte).toNat :=
  ⟨idle_serves _, by decide +kernel, by decide, by decide, by decide, by decide, by decide, by decide, by decide⟩

/-- The crowded table with the display as given. -/
def showing (mode : DisplayMode) (ref : Option SplitRef) : State := { crowded with disp := { mode := mode, ref := ref } }

/-- The projector present, nothing READY. -/
def present0 : State := { idle with inputs := { idle.inputs with projectorPresent := true } }

theorem witness_ProjectorFrameStartLatchesItsFrame :
    idle.inputs.projectorPresent = false ∧ present0.inputs.projectorPresent = true ∧
    ({ present0 with liu := { present0.liu with doze := true } } : State).liu.doze = true ∧
    (present0.liu.doze = false ∧ present0.disp.mode = .live ∧ newestReady present0 = none) ∧
    (crowded.inputs.projectorPresent = true ∧ crowded.liu.doze = false) ∧
    ((showing .live none).disp.mode = .live ∧ newestReady (showing .live none) = some 5) ∧
    ((showing .frozen none).disp.mode = .frozen ∧ holderSlot (showing .frozen none) .freeze = some 0 ∧
      ((showing .frozen none).slot 0).kind = some .sensor) ∧
    ((showing .page none).disp.mode = .page ∧ holderSlot (showing .page none) .page = some 1 ∧
      ((showing .page none).slot 1).kind = some PageMode.text.kind) ∧
    ((showing .split (some .freeze)).disp = { mode := .split, ref := some .freeze } ∧
      holderSlot (showing .split (some .freeze)) .freeze = some 0 ∧ (crowded.slot 0).kind = some .sensor ∧
      newestReady (showing .split (some .freeze)) = some 5) ∧
    (let s : State := { present0.setSlot 9 (pageSlot .photo 4 3 { page := true }) with disp := { mode := .split, ref := some .page } }
     s.disp = { mode := .split, ref := some .page } ∧ holderSlot s .page = some 9 ∧
      (s.slot 9).kind = some .pagePhoto ∧ newestReady s = none) := by decide

/-- The tap in 1080, with nothing READY. -/
def tapped : State := { idle with opt := { idle.opt with applied := .t1080 } }

theorem witness_TapFrameStartSkipsOrLatches :
    (idle.opt.applied = .off ∧ idle.opt.pending = none) ∧
    ({ idle.opt with pending := some .off } : Pipe TapMode).pending = some .off ∧
    (TapMode.t1080 ≠ .off ∧ tapped.opt.pending.getD tapped.opt.applied = .t1080) ∧
    ({ tapped with liu := { tapped.liu with doze := true } } : State).liu.doze = true ∧
    (tapped.liu.doze = false ∧ tapped.disp.mode = .live ∧ newestReady tapped = none) ∧
    (∀ mode ref, (showing mode ref).opt.pending.getD (showing mode ref).opt.applied = .t1080 ∧
      (showing mode ref).liu.doze = false) ∧
    newestReady (showing .live none) = some 5 ∧
    (holderSlot (showing .frozen none) .freeze = some 0 ∧ ((showing .frozen none).slot 0).kind = some .sensor) ∧
    (holderSlot (showing .page none) .page = some 1 ∧ ((showing .page none).slot 1).kind = some PageMode.text.kind) ∧
    (holderSlot (showing .split (some .freeze)) .freeze = some 0 ∧ newestReady (showing .split (some .freeze)) = some 5) ∧
    (let s : State := { tapped.setSlot 9 (pageSlot .photo 4 3 { page := true }) with disp := { mode := .split, ref := some .page } }
     s.disp = { mode := .split, ref := some .page } ∧ s.liu.doze = false ∧ holderSlot s .page = some 9 ∧
      (s.slot 9).kind = some .pagePhoto ∧ newestReady s = none) :=
  ⟨by decide, by decide, by decide, by decide, by decide, fun _ _ => ⟨rfl, rfl⟩, by decide, by decide, by decide, by decide,
    by decide⟩

theorem witness_HoldersMoveAsTheRulesGive :
    (0 ∈ [0] ∧ 9 ∉ [0] ∧ (crowded.slot 9).holders.has .scanP = false ∧ (crowded.slot 5).holders.has .scanP = true ∧
      5 ∉ [0]) ∧
    (let s := idle.setSlot 4 (pageSlot .text 1 52 { scanP := true })
     (s.slot 4).holders.has .scanP = true ∧ (s.slot 4).state = .ready ∧ (s.slot 4).kind = some .pageText ∧
      ({ (s.slot 4).holders.put .scanP false with page := false } : Holders) = {}) ∧
    (holderSlot idle .freeze = none ∧ holderSlot idle .page = none ∧ holderSlot crowded .page = some 1) ∧
    (holderSlot crowded .freeze = some 0 ∧ crowded.opp.ctx.reference = some 0 ∧ crowded.opp.ctx.live ≠ some 0 ∧
      crowded.opt.ctx.reference = some 0 ∧ crowded.opt.ctx.live ≠ some 0) := by decide

theorem witness_PresenceAndOutputModeRequests :
    Serves .cp0 idle ∧ (2 : Byte).toNat = ProjectorMode.p2160.code ∧ (0 : Byte).toNat = TapMode.off.code ∧
    2 < (3 : Byte).toNat := ⟨idle_serves _, by decide, by decide, by decide⟩

theorem witness_DisplayRequestsFollowTheirTable :
    Serves .cp0 idle ∧ Serves .cp0 crowded ∧ newestReady (requestTaken .cp0 idle) = none ∧
    newestReady (requestTaken .cp0 crowded) = some 5 ∧ holderSlot (requestTaken .cp0 idle) .page = none ∧
    holderSlot (requestTaken .cp0 crowded) .page = some 1 ∧ holderSlot (requestTaken .cp0 idle) .freeze = none ∧
    holderSlot (requestTaken .cp0 crowded) .freeze = some 0 ∧ 1 < (2 : Byte).toNat :=
  ⟨idle_serves _, ⟨rfl, rfl, by decide, rfl⟩, by decide, by decide, by decide, by decide, by decide, by decide, by decide⟩

theorem witness_LensTransactionsRetryOnce :
    ((1023 ≤ 1023 ∧ 0x77 ≤ 0x77) ∧ ({ idle with foc := { idle.foc with link := none } } : State).foc.link = none) ∧
    (∀ attempt ∈ [1, 2], (sending attempt).foc.link = some { pos := 948, attempt := attempt, addr := 0x0C }) ∧
    ({ (sending 1).foc with wanted := some 1023 } : Focus).wanted = some 1023 ∧
    ((sending 1).foc.wanted = none ∧ ({ (sending 1).foc with state := .parked } : Focus).state = .parked) ∧
    (∀ up ∈ [true, false], ∀ pos ∈ [0, 1, 1022, 1023],
      let f := { searching 900 0 800000 964 true up with link := some { pos := pos, attempt := 1, addr := 0x0C } }
      f.wanted = none ∧ f.link.map LensMove.pos = some pos ∧ f.state = .search { Search.reset with
        steps := 0, bestMeasure := some 800000, bestPos := 964, reversed := true, up := up, width := 1638, settle := 2 }) ∧
    ((if true then 1022 < 1023 else 0 < 1022) ∧ (if false then 1 < 1023 else 0 < 1)) ∧
    (¬ (if true then 1023 < 1023 else 0 < 1023) ∧ ¬ (if false then 0 < 1023 else 0 < 0)) := by decide

theorem witness_CoarseSearchTakesTheFirstTestThatHolds :
    (let f := searching 704 3 1420000 640 false true
     let r : Search := { Search.reset with
       steps := 3, bestMeasure := some 1420000, bestPos := 640, reversed := false, up := true, width := 1638, settle := 2 }
     f.state = .search r ∧ f.owed = false ∧ f.link = none ∧ f.wanted = none ∧ f.threshold ≤ 96 ∧ 95 < f.threshold ∧
      r.width ≤ 4 * ((2048 : Int) - (r.width : Int)).natAbs ∧ 4 * ((2047 : Int) - (r.width : Int)).natAbs < r.width ∧
      r.settle = 2 ∧ r.phase = .coarse ∧ 16 * 1331249 < 15 * 1420000 ∧ ¬ 16 * 1331250 < 15 * 1420000 ∧ f.lensPos < 1023) ∧
    ({ searching 704 3 1420000 640 false true with wanted := some 3 } : Focus).wanted.isSome ∧
    ({ Search.reset with settle := 1 } : Search).settle < 2 ∧
    (1023 ≤ (searching 1023 1 850000 964 false true).lensPos ∧ (searching 0 1 850000 64 false false).lensPos = 0) ∧
    (Focus.reset.owed = true ∧ Focus.reset.state ≠ .held) ∧ ({ Focus.reset with state := .held } : Focus).state = .held ∧
    (∀ x ∈ [FocusState.parked, .fault], ({ Focus.reset with owed := false, state := x } : Focus).state = x) ∧
    (let f := searching 1023 2 850000 964 true true
     f.state.code = 0 ∧ (focusOnPublish 830000 0 1638 24 true f).state.code = 1 ∧
      (focusOnPublish 830000 800 1638 24 true f).state.code = 0) := by
  decide

/-- A fine search at an index of the list about 640. -/
def fining (index : Nat) : Focus :=
  { Focus.reset with
    owed := false
    lensPos := 616 + 8 * index
    state := .search { Search.reset with
      phase := .fine, fineList := finePositions 640, fineIndex := index
      fineMeasures := List.replicate index 1400000, width := 1638, settle := 2 } }

/-- Locked at 632 with a quiet count. -/
def locked (quiet : Nat) (seen : Bool) : Focus :=
  { Focus.reset with owed := false, state := .locked { pos := 632, width := 1638, motionSeen := seen, quiet := quiet } }

theorem witness_FineSearchLocksTheBestPosition :
    (0 ≤ 1023 ∧ 1023 ≤ 1023) ∧ ([(616, 9), (624, 9)] : List (Nat × Nat)).Pairwise (fun a b => a.1 < b.1) ∧
    (∀ i ∈ [0, 5, 6], (fining i).owed = false ∧ (fining i).link = none ∧ (fining i).wanted = none ∧
      95 < (fining i).threshold ∧ ∃ r ∈ [Search.mk .fine true 0 false none 512 (finePositions 640) i
        (List.replicate i 1400000) 1638 2], (fining i).state = .search r ∧
        4 * ((1638 : Int) - (r.width : Int)).natAbs < r.width ∧ 2 ≤ r.settle ∧
        r.fineList[i + 1]? = [some 624, some 664, none][if i = 0 then 0 else i - 4]?.join) ∧
    ((locked 2 true).owed = false ∧
      (locked 2 true).state = .locked { pos := 632, width := 1638, motionSeen := true, quiet := 2 } ∧
      23 < (locked 2 true).threshold ∧ 1638 ≤ 4 * ((1228 : Int) - 1638).natAbs ∧ ¬ 1638 ≤ 4 * ((1229 : Int) - 1638).natAbs) := by
  decide

theorem witness_FocusRequestsSearchParkAndReport :
    Serves .cp0 idle ∧ (∀ a ∈ [(8 : Byte), 0x77], 8 ≤ a.toNat ∧ a.toNat ≤ 0x77) ∧
    (7 : Byte).toNat < 8 ∧ 0x77 < (0x78 : Byte).toNat ∧ (searching 704 3 9 640 false true).state.code = 0 ∧
    (fining 5).state.code = 1 ∧ (locked 2 true).state.code = 2 :=
  ⟨idle_serves _, by decide, by decide, by decide, by decide, by decide, by decide⟩

theorem witness_LampFollowsLevelFaultAndDoze : Serves .cp1 (lamp 500 true true) := ⟨rfl, rfl, by decide, rfl⟩

theorem witness_IdleTimerCountsMinutesAndDozes :
    (nearDoze.liu.doze = false ∧ nearDoze.liu.hold = false ∧ nearDoze.liu.timeout ≠ 0 ∧
      nearDoze.liu.minutes + 1 = nearDoze.liu.timeout) ∧
    (idle.liu.doze = false ∧ idle.liu.hold = false ∧ ¬ idle.liu.minutes + 1 = idle.liu.timeout) ∧
    ¬ (({ idle.liu with doze := true } : LampIdle).doze = false ∧ idle.liu.hold = false) := by decide

theorem witness_RequestsAndMotionWakeOrRestart :
    idle.liu.doze = false ∧ ({ idle.liu with doze := true } : LampIdle).doze = true ∧ 23 < idle.liu.wakeThreshold ∧
    idle.liu.wakeThreshold ≤ 24 ∧ Serves .cp0 idle := ⟨by decide, by decide, by decide, by decide, idle_serves _⟩

theorem witness_StoreProfileRequestsCheckThenTake :
    Serves .cp0 idle ∧ Serves .cp0 mounted ∧ (requestTaken .cp0 idle).cat.store = .unmounted ∧
    (requestTaken .cp0 mounted).cat.store ≠ .unmounted ∧
    (Instr.setStoreProfile .cp0 noFields [wholeEntry 0, wholeEntry 5]).wellFormed = true ∧
    ((∀ e ∈ [wholeEntry 0, wholeEntry 5], e.kind.toNat ≤ 6 ∧ e.commandLanes = some 1 ∧ e.addressLanes = some 1 ∧
      e.dataLanes = some 1 ∧ e.addressBytes = some 4) ∧ noFields.busyPolarity = none ∧
      ([wholeEntry 0, wholeEntry 5].map ProfileEntry.kind).Nodup) ∧
    ¬ ([wholeEntry 0, wholeEntry 0].map ProfileEntry.kind).Nodup ∧ ¬ (wholeEntry 7).kind.toNat ≤ 6 :=
  ⟨idle_serves _, mounted_serves _, by decide, by decide, by decide, by decide, by decide, by decide⟩

/-! The store bus. -/

theorem quiet_polled (late : Option Nat) : Quiet (polled late false (some (runOn .d1 .poll .statusPoll))) :=
  ⟨fun p => by cases p <;> rfl, rfl⟩

/-- The mount scanner's probe of a device on the bus, the device FAULTED and not seen to finish. -/
def probing (d : DevId) (present0 : Bool) (k : RunKind) : State :=
  { (bus [] (some (runOn d (.client .mount) k))).setDevice d { readyDevice with state := .faulted .carryOver true } with
    cat := { Catalogue.reset with
      store := .mounting, present0 := present0, mount := some { stage := .probe d, requester := some .cp0 } } }

theorem witness_StatusPollsDecideByTheByte :
    (let s := polled none false none
     (s.device .d1).state = .busy (atWork (some .save) none (some 5000)) ∧ s.ssq.due = [] ∧ s.ssq.bus = none) ∧
    ((bus [] none).device .d0).state = .ready ∧ (∀ d, ∃ b, (State.reset.device d).state = .busy b ∧ b.nextPoll = some 0) ∧
    State.reset.ssq.due = [] ∧ State.reset.ssq.bus = none ∧
    (∀ late ∈ [none, some 6000], let s := polled late false (some (runOn .d1 .poll .statusPoll))
      s.ssq.bus = some (runOn .d1 .poll .statusPoll) ∧ (s.device .d1).state = .busy (atWork (some .save) late (some 5000)) ∧
      s.now = 0 ∧ (atWork (some .save) late (some 5000)).deadline = 5000 ∧
      (1 : Byte).toNat / 2 ^ s.ssq.profile.busyBit % 2 = s.ssq.profile.busyPolarity ∧
      (0 : Byte).toNat / 2 ^ s.ssq.profile.busyBit % 2 ≠ s.ssq.profile.busyPolarity) ∧
    ({ atWork none none none with kind := .carried } : BusyRecord).kind = .carried ∧
    (4999 < 5000 ∧ 5000 ≤ 5000 ∧ 5999 < 6000 ∧ 6000 ≤ 6000) ∧
    (∀ present0 ∈ [true, false], ∀ d ∈ [DevId.d0, .d1],
      let s := probing d present0 .statusPoll
      s.ssq.bus = some (runOn d (.client .mount) .statusPoll) ∧ (s.device d).state = .faulted .carryOver true ∧
      s.cat.present0 = present0) ∧
    Quiet (polled none false (some (runOn .d1 .poll .statusPoll))) ∧
    Quiet (polled (some 6000) false (some (runOn .d1 .poll .statusPoll))) :=
  ⟨by decide, by decide, fun d => by cases d <;> exact ⟨_, rfl, rfl⟩, rfl, rfl, by decide, by decide, by decide, by decide +kernel, quiet_polled _, quiet_polled _⟩

theorem quiet_bus (x : Option Running) : Quiet (bus [] x) := ⟨fun p => by cases p <;> rfl, rfl⟩

theorem witness_BusEndsReachDeviceAndClient :
    (bus [] none).ssq.bus = none ∧ (∀ x, Quiet (bus [] x)) ∧ (∀ x, (bus [] (some x)).ssq.bus = some x) ∧
    (∀ k ∈ [RunKind.program, .sectorErase, .blockErase, .read 4096, .idRead, .statusPoll],
      (runOn .d1 (.client .save) k).kind = k) ∧
    ((runOn .d1 .poll .statusPoll).kind ≠ .program ∧ (runOn .d1 .poll .statusPoll).kind ≠ .read 0 ∧
      (runOn .d1 .poll .statusPoll).user ≠ .recheck) ∧
    (List.replicate 4096 (0 : Byte)).length = 4096 ∧ (List.replicate 4095 (0 : Byte)).length ≠ 4096 ∧
    readyDevice.refId = some (0xA7, 0x41, 0x19) ∧ readyDevice.refId ≠ some (0xFF, 0xFF, 0xFF) ∧
    (∀ present0 ∈ [true, false], ∀ d ∈ [DevId.d0, .d1],
      (probing d present0 .idRead).ssq.bus = some (runOn d (.client .mount) .idRead) ∧
      (probing d present0 .idRead).cat.present0 = present0) ∧
    (((probing .d1 true .idRead).device .d1).state = .faulted .carryOver true ∧
      (bus threeWaiting none).ssq.waiting.all (fun w => decide (w.op.dev = .d1 ∧ w.op.kind ≠ .probe)) = true ∧
      OpKind.read 256 ≠ .probe) :=
  ⟨rfl, quiet_bus, fun _ => rfl, by decide, by decide, by decide +kernel, by decide +kernel, by decide, by decide, by decide +kernel, by decide⟩

theorem profile_reset_sound : ProfileSound Profile.reset := by
  refine ⟨fun k => ?_, by decide⟩
  cases k <;> exact ⟨by decide, by decide, by first | rfl | exact .inl rfl⟩

/-- A program of the catalogue writer waits, its task first on the list. -/
def writerWaits : State :=
  let w : WaitingOp := { client := .writer, op := { dev := .d1, kind := .program [0xFF], addr := 65536 } }
  { bus [w] none with cat := { Catalogue.reset with
    tasks := [{ kind := .pageCommit 0, stage := .commit, granted := false }] } }

theorem witness_ArbiterGrantsByRank : ProfileSound Profile.reset ∧
    (writerWaits.ssq.bus = none ∧ writerWaits.ssq.due = [] ∧
      writerWaits.ssq.waiting.map (fun w => (w.client, w.op.kind)) = [(.writer, .program [0xFF])] ∧
      (writerWaits.device .d1).state = .ready ∧
      writerWaits.cat.tasks = [{ kind := .pageCommit 0, stage := .commit, granted := false }]) ∧
    (bus [] (some (runOn .d1 .poll .statusPoll))).ssq.bus ≠ none ∧ (bus threeWaiting none).ssq.bus = none ∧
    (bus threeWaiting none).ssq.due = [] ∧ (onD1 .reclaim .blockErase) ∈ threeWaiting ∧
    ((bus threeWaiting none).device .d1).state = .ready ∧ (bus [] none).ssq.waiting = [] ∧
    ((bus [] none).modSsq fun q => { q with due := [{ dev := .d1, recheck := true }] }).ssq.due =
      [{ dev := .d1, recheck := true }] := ⟨profile_reset_sound, by decide⟩

/-- Whether a step answers a next state. -/
def goesOn (s : State) : Bool :=
  match step s with
  | .next _ => true
  | .fault _ => false
  | .refused _ => false

theorem steps_of_goesOn (s : State) (h : goesOn s = true) : ∃ t, Steps s t := by
  unfold goesOn at h
  split at h
  · exact ⟨_, by assumption⟩
  · cases h
  · cases h

/-- With nothing due and D0 READY, a poll on the bus for D1 or, with its recheck pending, the recheck. -/
theorem polled_busSound (late next : Option Nat) (recheck : Bool) (h : recheck = true → next = none) :
    let b : BusyRecord := { atWork (some .save) late next with recheck := recheck }
    BusSound ((bus [] (some (runOn .d1 (if recheck then .recheck else .poll)
      (if recheck then .idRead else .statusPoll)))).setDevice .d1 { readyDevice with state := .busy b }) := by
  intro b
  refine ⟨?_, ?_, nofun, List.nodup_nil, fun d => ?_⟩
  · rintro r x ⟨⟩ ⟨⟩
    cases recheck
    · exact .inl ⟨rfl, rfl, rfl⟩
    · exact .inr ⟨rfl, rfl, rfl⟩
  · rintro r ⟨⟩ -
    exact ⟨⟨b, rfl⟩, nofun⟩
  · cases d
    · rintro x ⟨⟩
    · rintro x ⟨⟩ g
      exact h g

/-- A BUSY device under a status poll, and one under its recheck, with the command that ends it. -/
theorem witness_BusyDeviceSeesPollsOnly :
    (BusSound (polled none false (some (runOn .d1 .poll .statusPoll))) ∧
      ∃ t, Steps { polled none false (some (runOn .d1 .poll .statusPoll)) with pending := [.statusPollEnd 4990 1] } t) ∧
    BusSound ((bus [] (some (runOn .d1 .recheck .idRead))).setDevice .d1
      { readyDevice with state := .busy { atWork (some .save) none none with recheck := true } }) :=
  ⟨⟨polled_busSound none (some 5000) false (by decide), steps_of_goesOn _ (by decide +kernel)⟩,
    polled_busSound none none true (fun _ => rfl)⟩

/-! The catalogue. -/

theorem witness_RecordsReadBackAsWritten :
    (List.replicate 256 (0xFF : Byte)).length = 256 ∧ (∀ b ∈ List.replicate 256 (0xFF : Byte), b = 0xFF) ∧ 63 < 64 ∧
    (∀ n ∈ [1, 24], 1 ≤ (List.replicate n (0x7E : Byte)).length ∧ (List.replicate n (0x7E : Byte)).length ≤ 24) ∧
    (∀ b ∈ [(0x20 : Byte), 0x7E], 0x20 ≤ b.toNat ∧ b.toNat ≤ 0x7E) ∧ 1023 < 1024 ∧
    (let g : Page := { lesson := 63, seq := 999, mode := .text, saveSeq := 4294967295, blocks := (List.range 16).map (68 + ·) }
     g.lesson ≤ 63 ∧ 1 ≤ g.seq ∧ g.seq ≤ 999 ∧ g.saveSeq < 4294967296 ∧ g.blocks.length = g.mode.blockCount ∧
      g.blocks.Nodup ∧ ∀ b ∈ g.blocks, if b < 4096 then mountedCat.present0 = true ∧ 68 ≤ b
        else mountedCat.present1 = true ∧ b < 8192) := by decide +kernel

/-- The mounted store while a recall is in flight. -/
def recalling : State := { mounted with sre := { jobs := [], recalling := some halfRead } }

theorem mounting_serves (p : PortId) : Serves p { idle with cat := { idle.cat with store := .mounting } } := by
  cases p <;> exact ⟨rfl, rfl, (Nat.succ_pos 3 : 0 < 4), rfl⟩

theorem recalling_serves (p : PortId) : Serves p recalling := by cases p <;> exact ⟨rfl, rfl, (Nat.succ_pos 3 : 0 < 4), rfl⟩

/-- Every lesson as given. -/
def lessonsAll (x : Lesson) : State :=
  { mounted with cat := { mountedCat with lessons := Vector.replicate 64 x } }

theorem lessonsAll_serves (x : Lesson) (p : PortId) : Serves p (lessonsAll x) := by
  cases p <;> exact ⟨rfl, rfl, (Nat.succ_pos 3 : 0 < 4), rfl⟩

theorem witness_StoreStateRequestsMountUnmountReport :
    (∀ p, Serves p idle ∧ Serves p { idle with cat := { idle.cat with store := .mounting } } ∧ Serves p mounted ∧
      Serves p recalling) ∧
    (requestTaken .cp0 idle).cat.store = .unmounted ∧ (requestTaken .cp0 mounted).cat.store = .mounted ∧
    (requestTaken .cp0 recalling).sre.recalling ≠ none ∧
    (let r := requestTaken .cp0 mounted
     r.sre.jobs = [] ∧ r.sre.recalling = none ∧ r.cp0.direct = none ∧ r.cp1.direct = none ∧ r.cp2.direct = none ∧
      r.cat.tasks = [] ∧ ∀ n : Fin 64, (r.lesson n).state ≠ .rewriting) :=
  ⟨fun p => ⟨idle_serves p, mounting_serves p, mounted_serves p, recalling_serves p⟩, by decide +kernel, by decide +kernel,
    by decide +kernel, by decide +kernel⟩

theorem witness_LessonRequestsCreateSelectAndLock :
    (Serves .cp0 idle ∧ Serves .cp0 mounted ∧ ∀ x, Serves .cp0 (lessonsAll x)) ∧
    (∀ n ∈ [1, 62], (List.replicate n (0x41 : Byte)).length ≤ 62 ∧ List.replicate n (0x41 : Byte) ≠ []) ∧
    (0x7E < (0x7F : Byte).toNat ∧ (0x1F : Byte).toNat < 0x20) ∧
    (let r := requestTaken .cp0 mounted
     (r.lesson 1).state = .empty ∧ (∀ i : Fin 1, (r.lesson i).state ≠ .empty) ∧ (r.lesson 0).state = .live ∧
      (r.lesson 0).lock = false ∧ (0 : Byte) ≠ 0xFF ∧ (r.lesson 63).state = .empty) ∧
    (let r := requestTaken .cp0 (lessonsAll { state := .rewriting, name := [0x41] })
     (∀ n : Fin 64, (r.lesson n).state ≠ .empty) ∧ (r.lesson 63).state = .rewriting) ∧
    (requestTaken .cp0 (lessonsAll { state := .wiped })).lesson 63 = { state := .wiped } :=
  ⟨⟨idle_serves _, mounted_serves _, fun x => lessonsAll_serves x _⟩, by decide, by decide, by decide +kernel,
    by decide +kernel, by decide +kernel⟩

theorem witness_PageAndWipeRequestsRetire :
    (Serves .cp0 idle ∧ Serves .cp0 mounted ∧ ∀ x, Serves .cp0 (lessonsAll x)) ∧
    (let r := requestTaken .cp0 mounted
     (r.page 1023).state ≠ .stored ∧ (r.page 0).state = .stored ∧ (r.lesson (r.page 0).lesson).lock = false ∧
      (r.lesson (r.page 0).lesson).state = .live ∧ (r.lesson 63).state = .empty ∧ r.sre.jobs = []) ∧
    (let r := requestTaken .cp0 (lessonsAll { state := .live, name := [0x41], lock := true })
     (r.page 0).state = .stored ∧ (r.lesson 0).lock = true) ∧
    (let r := requestTaken .cp0 (lessonsAll { state := .rewriting, name := [0x41] })
     (r.page 0).state = .stored ∧ (r.lesson 0).lock = false ∧ (r.lesson 0).state = .rewriting) ∧
    (∃ j ∈ (requestTaken .cp0 (writing 99 4 0 11 [182])).sre.jobs, j.lesson = 0) :=
  ⟨⟨idle_serves _, mounted_serves _, fun x => lessonsAll_serves x _⟩, by decide +kernel, by decide +kernel,
    by decide +kernel, by decide +kernel⟩

theorem pages_of_mounted (i : Nat) (h : (mounted.page i).state = .stored) : 1 ≤ (mounted.page i).seq := by
  by_cases h0 : i = 0
  · subst h0; decide +kernel
  · exfalso
    revert h
    by_cases h1 : i < 1024
    · simp [mounted, mountedCat, State.page, Catalogue.reset, h1, Ne.symm h0]
    · simp [mounted, mountedCat, State.page, Catalogue.reset, h1]

theorem witness_ListRequestsPageThroughTheCatalogue :
    Serves .cp0 idle ∧ Serves .cp0 mounted ∧ (requestTaken .cp0 mounted).cat.store = .mounted ∧
    (requestTaken .cp0 idle).cat.store = .unmounted ∧ ((requestTaken .cp0 mounted).lesson 0).state = .live ∧
    ((requestTaken .cp0 mounted).lesson 63).state = .empty ∧
    ∀ i, ((requestTaken .cp0 mounted).page i).state = .stored → 1 ≤ ((requestTaken .cp0 mounted).page i).seq :=
  ⟨idle_serves _, mounted_serves _, by decide +kernel, by decide +kernel, by decide +kernel, by decide +kernel,
    fun i h => pages_of_mounted i h⟩

/-- Two pages STORED in one lesson with one sequence. -/
def twins : State :=
  mounted.setPage 1 { state := .stored, lesson := 0, seq := 2, mode := .text, blocks := (List.range 16).map (84 + ·), saveSeq := 41 }

theorem witness_DuplicatePassLeavesNoConflict :
    (twins.page 0).state = .stored ∧ (twins.page 1).state = .stored ∧ (twins.page 0).lesson = (twins.page 1).lesson ∧
    (twins.page 0).seq = (twins.page 1).seq ∧ (twins.page 0).saveSeq < (twins.page 1).saveSeq := by decide +kernel

/-- A mount of both devices at an area. -/
def scanning (n : Nat) : State :=
  { bus [] none with cat := { Catalogue.reset with
      store := .mounting, present0 := true, present1 := true, mount := some { stage := .area n, requester := none } } }

theorem witness_MountScanBuildsTheTables :
    (∀ n ∈ [0, 63, 64, 1086, 1087], (scanning n).cat.mount = some { stage := .area n, requester := none }) ∧
    1086 + 1 < 1088 ∧ 1088 ≤ 1087 + 1 ∧ (scanning 1087).cat.tasks = [] := by decide +kernel

/-- The mounted store with tasks. -/
def tasked (l : List Task) : State := { mounted with cat := { mountedCat with tasks := l } }

theorem witness_CatalogueWriterRunsItsTasks :
    (∀ t rest, (tasked (t :: rest)).cat.tasks = t :: rest) ∧
    (∃ bytes, OpResult.done [] = .done bytes) ∧ (∀ r ∈ [OpResult.timeout, .deviceFault], ∀ bytes, r ≠ .done bytes) ∧
    (∀ stage ∈ [TaskStage.erase, .body, .commit],
      (Task.mk (.lessonRewrite 63 (some (.cp1, true))) stage true).stage = stage ∧
      (Task.mk (.lessonRewrite 0 none) stage false).stage = stage) ∧
    (∀ stage ∈ [TaskStage.body, .commit], ∀ granted ∈ [true, false],
      (Task.mk (.lessonCreate 63 .cp2) stage granted).stage = stage ∧
      (Task.mk (.pageCommit 1023) stage granted).stage = stage) ∧
    (∀ wipe ∈ [none, some 0], (Task.mk (.pageRetire 0 wipe) .retire false).stage = .retire) ∧
    (∀ first ∈ [none, some OpResult.timeout], (Task.mk (.lessonRetire 0 .cp0 first) .retire false).stage = .retire) :=
  ⟨fun _ _ => rfl, ⟨_, rfl⟩, fun r h bytes e => by subst e; simp at h, by decide, by decide, by decide, by decide⟩

/-- Every block as given, a block among them, with the cursor and the allocation. -/
def mapped (x y : BlockState) (g cursor : Nat) (alloc : Allocation) : State :=
  { bus [] none with cat := { mountedCat with
      blocks := (Vector.replicate 8192 (some x)).setIfInBounds g (some y), cursor := some cursor, alloc := alloc } }

theorem mapped_block {x y z : BlockState} {g cursor h : Nat} {alloc : Allocation} (e : (mapped x y g cursor alloc).block h = some z) :
    (z = y ∧ h = g) ∨ z = x := by
  by_cases hh : h < 8192 <;> by_cases hg : g = h <;> simp [mapped, State.block, hh, hg] at e
  · exact .inl ⟨e.symm, hg.symm⟩
  · exact .inr e.symm

theorem witness_AllocationFindsABlock :
    (∀ g, (mapped .bad .free 8191 8191 .idle).block g = some .free → g = 8191) ∧
    (∀ g, (mapped .bad .unknown 8191 68 .idle).block g ≠ some .free) ∧
    (∀ g, (mapped .bad .unknown 8191 68 .idle).block g = some .unknown → g = 8191) ∧
    (mapped .bad .free 8191 8191 .idle).block 8191 = some .free ∧
    (mapped .bad .unknown 8191 68 .idle).block 8191 = some .unknown ∧
    (mapped .bad .unknown 8191 68 .idle).cat.present1 = true ∧
    ((mapped .bad .unknown 8191 68 .idle).device .d1).state = .ready :=
  ⟨fun g h => by have := mapped_block h; simp_all, fun g h => by have := mapped_block h; simp_all,
    fun g h => by have := mapped_block h; simp_all, by decide +kernel, by decide +kernel, by decide +kernel, by decide +kernel⟩

theorem witness_AllocationFindsNone :
    (∀ g, ∀ x ∈ [BlockState.free, .unknown], (mapped .bad .dirty 68 68 .idle).block g ≠ some x) ∧
    (mapped .bad .dirty 68 68 .idle).block 68 = some .dirty ∧
    (∀ g, ∀ x ∈ [BlockState.free, .unknown, .dirty, .erasing], (mapped .bad .bad 68 68 .idle).block g ≠ some x) :=
  ⟨fun g x hx h => by have := mapped_block h; revert hx; rcases this with ⟨rfl, -⟩ | rfl <;> decide, by decide +kernel, fun g x hx h => by have := mapped_block h; revert hx; rcases this with ⟨rfl, -⟩ | rfl <;> decide⟩

theorem witness_AllocationAndReclaimFollowTheirScans :
    (∀ n ∈ [14, 15], (mapped .bad .unknown 182 182 (.checking 182 n)).cat.alloc = .checking 182 n) ∧
    ((∀ b ∈ List.replicate 4096 (0xFF : Byte), b = 0xFF) ∧ ∃ b ∈ [(0xFF : Byte), 0], b ≠ 0xFF) ∧
    (idle.cat.store ≠ .mounted ∧ mounted.cat.store = .mounted ∧ mounted.cat.reclaim = none) ∧
    (((mounted.setLesson 0 { state := .wiped }).lesson 0).state = .wiped ∧
      ((mounted.setLesson 0 { state := .wiped }).lesson 0).deferred = false ∧ (mounted.device .d0).state = .ready) ∧
    ∀ i ∈ [ReclaimItem.sector 0, .sector 64, .block 68, .block 8191],
      ({ mountedCat with reclaim := some i } : Catalogue).reclaim = some i :=
  ⟨by decide, ⟨fun _ => List.eq_of_mem_replicate, by decide⟩, by decide +kernel, by decide +kernel, fun _ _ => rfl⟩

theorem witness_ReclaimFindsAPage : ((mounted.setPage 0 { state := .retired }).page 0).state = .retired ∧
    ∀ m < 64, ((mounted.setPage 0 { state := .retired }).lesson m).state ≠ .wiped := by decide +kernel

/-- D0 FAULTED, the last block of D1 DIRTY and an allocation waiting for it. -/
def lastDirty : State :=
  (mapped .bad .dirty 8191 68 .waiting).setDevice .d0 { readyDevice with state := .faulted .carryOver true }

theorem witness_ReclaimFindsABlock : (lastDirty.device .d0).state = .faulted .carryOver true ∧
    lastDirty.block 8191 = some .dirty ∧ (lastDirty.device .d1).state = .ready ∧ lastDirty.cat.alloc = .waiting ∧
    ∀ g, lastDirty.block g = some .dirty → g = 8191 :=
  ⟨by decide +kernel, by decide +kernel, by decide +kernel, by decide +kernel, fun g h => by
    have h : (mapped .bad .dirty 8191 68 .waiting).block g = some .dirty := h
    have := mapped_block h
    simp_all⟩

/-! Saving and recalling. -/

/-- A TEXT job of a page, with its save buffer; it has its source while it waits to render or renders. -/
def job (state : JobState) (page : Nat) (buffer : Option Nat) : Job :=
  { state := state, requester := .cp0, lesson := 0, page := page, seq := page, saveSeq := 47, mode := .text
    source := if state = .pending ∨ state = .rendering then some (5, .saveA) else none
    view := { kind := .sensor, zc := 100, cx := 2048, cy := 1152 }, enh := idle.ren.enh, tone := identityTone
    buffer := buffer, blocks := [], done := 0, nextPage := 0, relocations := 0, remaining := 16, marks := [] }

/-- FROZEN on slot 5 with jobs. -/
def saving (jobs : List Job) : State :=
  { frozen with liu := { frozen.liu with hold := true }, sre := { jobs := jobs, recalling := none } }

theorem frozen_serves (p : PortId) : Serves p frozen := by cases p <;> exact ⟨rfl, rfl, (Nat.succ_pos 3 : 0 < 4), rfl⟩

theorem saving_serves (l : List Job) (p : PortId) : Serves p (saving l) := by
  cases p <;> exact ⟨rfl, rfl, (Nat.succ_pos 3 : 0 < 4), rfl⟩

/-- Every page as given. -/
def pagesAll (x : Page) : State := { frozen with cat := { mountedCat with pages := Vector.replicate 1024 x } }

theorem pagesAll_serves (x : Page) (p : PortId) : Serves p (pagesAll x) := by
  cases p <;> exact ⟨rfl, rfl, (Nat.succ_pos 3 : 0 < 4), rfl⟩

theorem witness_SavePageChecksInOrderAndTakesItsFrame :
    (Serves .cp0 idle ∧ (∀ p, Serves p frozen) ∧ (∀ l, Serves .cp0 (saving l)) ∧ ∀ x, Serves .cp0 (pagesAll x)) ∧
    ((1 : Byte).toNat ≤ 1 ∧ 1 < (2 : Byte).toNat) ∧
    (requestTaken .cp1 frozen).cp1.lesson = none ∧
    (∀ jobs ∈ [[], [job .writing 3 (some 0)], [job .rendering 3 (some 0)],
        [job .writing 3 (some 0), job .writing 4 (some 1), job .pending 5 none]],
      let r := requestTaken .cp0 (saving jobs)
      r.cat.store = .mounted ∧ r.cp0.lesson = some 0 ∧ (r.lesson 0).state = .live ∧ (r.lesson 0).lock = false ∧
      r.sre.jobs = jobs ∧ jobs.length < 4 ∧
      (jobs.filter fun j => decide (j.state = .pending ∨ j.state = .rendering)).length < 2 ∧
      r.disp.mode = .frozen ∧ holderSlot r .freeze = some 5 ∧ (r.page 1).state = .empty ∧
      (∀ i : Fin 1, (r.page i).state ≠ .empty) ∧ (r.page 0).lesson = 0 ∧ (r.page 0).seq = 2 ∧
      (r.device .d0).state = .ready ∧ (r.device .d1).state = .ready ∧ r.cat.reserved = some 0 ∧
      ((List.range 16).map (182 + ·)).Nodup ∧ (∀ g ∈ (List.range 16).map (182 + ·), r.block g = some .free) ∧
      ((∃ i ∈ jobs, i.state = .pending) → (∃ i ∈ jobs, i.state = .rendering) ∨
        ((∃ i ∈ jobs, i.buffer = some 0) ∧ ∃ i ∈ jobs, i.buffer = some 1))) ∧
    ((saving (List.replicate 4 (job .writing 3 none))).sre.jobs.length = 4 ∧
      (saving (List.replicate 2 (job .pending 3 none))).sre.jobs.map Job.state = [.pending, .pending]) ∧
    holderSlot (requestTaken .cp0 { saving [] with disp := { mode := .page, ref := none } }) .page = none ∧
    (requestTaken .cp0 (pagesAll { state := .stored, lesson := 0, seq := 999 })).cat.pages =
      Vector.replicate 1024 { state := .stored, lesson := 0, seq := 999 } ∧
    ((requestTaken .cp0 (pagesAll { state := .empty, lesson := 0, seq := 0 })).page 0).state = .empty :=
  ⟨⟨idle_serves _, frozen_serves, fun l => saving_serves l _, fun x => pagesAll_serves x _⟩, by decide, by decide +kernel,
    by decide +kernel, by decide +kernel, by decide +kernel, rfl, by decide +kernel⟩

theorem saving_quiet (l : List Job) : Quiet (saving l) := ⟨fun p => by cases p <;> rfl, rfl⟩

theorem witness_SaveRenderEndWritesTheImage :
    (∀ l, Quiet (saving l) ∧ (saving l).sre.jobs = l) ∧
    ((∃ i ∈ [job .rendering 4 (some 1)], i.state = .rendering) ∧
      (∃ i ∈ [job .writing 3 (some 0), job .writing 4 (some 1)], i.buffer = some 0) ∧
      (∃ i ∈ [job .writing 3 (some 0), job .writing 4 (some 1)], i.buffer = some 1)) ∧
    (let l := [job .writing 3 (some 0)] ++ job .pending 4 none :: [job .pending 5 none]
     (∀ k ∈ [job .writing 3 (some 0)], k.state ≠ .pending) ∧ (∀ k ∈ l, k.state ≠ .rendering) ∧
      (¬ ∃ i ∈ l, i.buffer = some 1) ∧ ∃ i ∈ l, i.buffer = some 0) ∧
    (∀ j ∈ [job .writing 3 (some 0), job .committing 3 (some 0)],
      let l := [j] ++ job .rendering 4 (some 1) :: [job .pending 5 none]
      (∀ i ∈ [j], i.state ≠ .rendering) ∧ (l.map Job.page).Nodup ∧
      (job .rendering 4 (some 1)).source = some (5, .saveA) ∧ (job .rendering 4 (some 1)).buffer = some 1) ∧
    (∃ i ∈ [job .writing 3 (some 0)] ++ [job .pending 5 none], i.state = .writing) ∧
    (∀ i ∈ [job .committing 3 (some 0)] ++ [job .pending 5 none], i.state ≠ .writing) ∧
    253 < pieceCount .text ∧ 759 < pieceCount .photo :=
  ⟨fun l => ⟨saving_quiet l, rfl⟩, by decide +kernel, by decide +kernel, by decide +kernel, by decide +kernel,
    by decide +kernel, by decide, by decide⟩

/-- A direct read of 300 bytes with 36 of them read. -/
def reading : DirectRead := { page := 0, offset := 65500, length := 256, got := List.replicate 36 7 }

theorem witness_RecallAndDirectReadPinTheirPage :
    (Serves .cp0 idle ∧ Serves .cp0 mounted ∧ Serves .cp0 recalling) ∧
    (1 < (2 : Byte).toNat ∧ (1 : Byte).toNat ≤ 1 ∧ (0 : Byte).toNat ≤ 1) ∧
    (let r := requestTaken .cp0 mounted
     r.cat.store = .mounted ∧ (r.page 0).state = .stored ∧ (r.page 1023).state ≠ .stored ∧ r.sre.recalling = none ∧
      chooseSlot r = some 0 ∧ (r.page 0).mode.imageBytes ≤ (1036800 : Quad).toNat ∧
      (1036799 : Quad).toNat < (r.page 0).mode.imageBytes) ∧
    (let r := requestTaken .cp0 recalling
     r.sre.recalling = some halfRead ∧
      chooseSlot (post halfRead.requester { kind := .recallSuperseded, contents := u16 0 } (dropRecall halfRead r)) = some 0) ∧
    (({ openPort with direct := some reading } : Port).direct = some reading ∧
      reading.got.length + (List.replicate 220 (9 : Byte)).length = reading.length) ∧
    (({ openPort with direct := some { reading with got := [] } } : Port).direct = some { reading with got := [] } ∧
      0 + (List.replicate 36 (7 : Byte)).length < reading.length ∧ (reading.offset + 0 + 36) % 65536 = 0 ∧
      reading.length ≤ 256) :=
  ⟨⟨idle_serves _, mounted_serves _, recalling_serves _⟩, by decide, by decide +kernel, by decide +kernel, by decide⟩

theorem witness_SaveWriterProgramsCommitsOrFails :
    (let l := [job .committing 6 (some 1)] ++ job .writing 3 (some 0) :: [job .pending 5 none]
     (saving l).sre.jobs = l ∧ (l.map Job.page).Nodup ∧ (job .writing 3 (some 0)).state = .writing ∧
      (∀ i ∈ [job .committing 6 (some 1)], i.state ≠ .writing)) ∧
    (let programs := fun n => min 256 ((PageMode.text.imageBytes - 65536 * n) / 256)
     254 + 1 < programs 14 ∧ programs 14 ≤ 255 + 1 ∧ 208 + 1 < programs 15 ∧ programs 15 ≤ 209 + 1 ∧
      14 + 1 < PageMode.text.blockCount ∧ PageMode.text.blockCount ≤ 15 + 1) ∧ 1 < 2 ∧ 2 ≤ 2 := by decide +kernel

theorem witness_RecallReadsPublishesOrFails :
    (1023 < 1024 ∧ ∀ pins ∈ [1, 2],
      let s := mounted.setPage 1023 { state := .retiring, mark := .done, pins := pins }
      (s.page 1023).state = .retiring ∧ (s.page 1023).mark = .done ∧ (s.page 1023).pins = pins) ∧
    (recalling.sre.recalling = some halfRead ∧ 3 + 1 < 254) ∧
    ((lastPiece.sre.recalling.map Recall.next) = some 253 ∧ 254 ≤ 253 + 1) ∧
    ((∃ g ∈ halfRead.blocks.drop (halfRead.next / 16), (if g < 4096 then DevId.d0 else .d1) = .d1) ∧
      ∀ g ∈ (halfRead.blocks.drop (17 / 16)), (if g < 4096 then DevId.d0 else .d1) ≠ .d0) := by decide +kernel

theorem witness_StoreWorkKeepsThePartAwake :
    WorkSound { saving [job .rendering 3 (some 0), job .pending 4 none] with pending := [.minuteIntervalElapsed] } ∧
    ∃ t, Steps { saving [job .rendering 3 (some 0), job .pending 4 none] with pending := [.minuteIntervalElapsed] } t :=
  ⟨⟨by decide, by decide, by decide, by decide⟩, steps_of_goesOn _ (by decide +kernel)⟩

/-! The control ports. -/

/-- A fetch whose frame stands at its last byte, the answer still in its queue. -/
def fetching : Transaction := { kind := .fetch, left := [7], held := true, count := 4 }

theorem witness_PortTransactionsReadFetchAndDiscard :
    (idle.cp0.transfer = none ∧ idle.cp0.answers = [] ∧ (clearedPort none).busy = true ∧ (clearedPort none).transfer = none) ∧
    (answered.cp0.answers = ⟨.ok, 3, [7]⟩ :: [⟨.ok, 3, [7]⟩, ⟨.ok, 3, [7]⟩, ⟨.ok, 3, [7]⟩] ∧ answered.cp0.busy = false ∧
      answered.cp0.transfer = none ∧ 4 < 5 ∧ 4 < 4 + [(7 : Byte)].length ∧
      ({ answered.cp0 with requests := [] } : Port).requests = []) ∧
    (66 < (67 : Byte).toNat ∧ (List.replicate 65 (0 : Byte)).length < (66 : Byte).toNat) ∧
    decide ((clearedPort none).requests.length < 4 ∧ (clearedPort none).busy = false) = false ∧
    (({ openPort with transfer := some fetching } : Port).transfer = some fetching ∧ fetching.kind ≠ .poll ∧
      fetching.kind ≠ .unknown ∧ fetching.kind ≠ .send ∧ ({ kind := .poll } : Transaction).kind ≠ .fetch) ∧
    (∀ k ∈ [TransactionKind.poll, .unknown, .fetch, .send], (clearedPort (some { fetching with kind := k })).transfer =
      some { kind := k, count := 4, cut := true }) ∧ (2 < (3 : Byte).toNat ∧ 2 < (255 : Byte).toNat) := by decide

theorem witness_RequestFramesReadBack :
    ∃ f, (Instr.loadTone .cp0 255 (List.replicate 64 7)).wellFormed = true ∧
      frameOf (.loadTone .cp0 255 (List.replicate 64 7)) = some (.cp0, f) ∧ f.params.length = 66 ∧
      ∀ code params, Instr.loadTone .cp0 255 (List.replicate 64 7) ≠ .badRequest .cp0 code params :=
  ⟨_, by decide, rfl, by decide, fun _ _ h => by cases h⟩

theorem witness_SentFramesRunTheirRequests :
    (Instr.badRequest .cp0 0x99 [1]).wellFormed = true ∧ frameOf (.badRequest .cp0 0x99 [1]) = some (.cp0, ⟨0x99, [1]⟩) ∧
    answered.cp0.transfer = none ∧ 4 ≤ answered.cp0.answers.length ∧ answered.cp0.requests.length < 4 ∧ answered.cp0.busy = false := by decide

theorem witness_PortRequestsReportAndClear :
    Serves .cp0 idle ∧ Serves .cp0 pressed ∧ ((requestTaken .cp0 idle).port .cp0).notices = [] ∧
    (((requestTaken .cp0 pressed).port .cp0).notices).length = 16 ∧ (List.replicate 66 (0 : Byte)).length ≤ 66 ∧
    decodeRequest? .cp0 0x99 (List.replicate 66 0) = none ∧ decodeRequest? .cp0 0x58 [] = none ∧
    (pressed.cp0.notices.any (fun m => decide (m.kind = .viewChanged)) = true ∧
      pressed.cp0.notices.all (fun m => !decide (m.kind = .focusState)) = true ∧ 16 ≤ pressed.cp0.notices.length ∧
      idle.cp0.notices.length < 16 ∧ idle.cp0.notices.all (fun m => !decide (m.kind = .focusState)) = true) :=
  ⟨idle_serves _, ⟨rfl, rfl, by decide, rfl⟩, by decide, by decide, by decide, by decide, by decide, by decide⟩

theorem witness_PortResetClearsOnePort :
    (clearedPort none).resetInput = true ∧ openPort.resetInput = false ∧ openPort.busyFrom = none ∧
    (State.reset.cp0.busyFrom = some 0 ∧ State.reset.cp0.requests = []) := by decide

theorem witness_ResetsLeaveTheirValues :
    Serves .cp0 idle ∧ (requestTaken .cp0 idle).cat.store = .unmounted ∧ Serves .cp0 mounted ∧
    (requestTaken .cp0 mounted).cat.store ≠ .unmounted := ⟨idle_serves _, by decide, mounted_serves _, by decide +kernel⟩

/-- CP0 with everything at its bound. -/
def full : State :=
  { pressed with
    pending := [.setAttentionMark .cp0 99]
    cp0 := { pressed.cp0 with
      requests := List.replicate 4 ⟨0x12, [0, 9]⟩, answers := List.replicate 4 ⟨.ok, 3, [7]⟩, mark := 15, tone := 256
      discarded := 255 } }

theorem openPort_sound : PortSound openPort where
  requests := by decide
  answers := by decide
  notices := ⟨by decide, fun k h => by revert h; cases k <;> decide⟩
  mark := by decide
  tone := by decide
  discarded := by decide
  input := by decide
  interval := by decide

theorem witness_QueuesAndMemoryStaySound : QueuesSound full ∧ ∃ t, Steps full t := by
  refine ⟨⟨fun p => ?_, by decide⟩, steps_of_goesOn _ (by decide +kernel)⟩
  cases p
  · exact { requests := by decide, answers := by decide, notices := ⟨by decide, fun k h => by revert h; cases k <;> decide⟩
            mark := by decide, tone := by decide, discarded := by decide, input := by decide, interval := by decide }
  · exact openPort_sound
  · exact openPort_sound

theorem witness_SettingsStayInRange : SettingsSound { sending 1 with pending := [.lensClockHoldTimeout] } ∧
    ∃ t, Steps { sending 1 with pending := [.lensClockHoldTimeout] } t := by
  refine ⟨?_, steps_of_goesOn _ (by decide +kernel)⟩
  have focus : FocusSound (sending 1).foc := by
    refine ⟨by decide, fun m h => ?_, fun n h => ?_, ?_⟩
    · cases h
      decide
    · cases h
    · repeat' (first | decide | constructor)
  unfold SettingsSound ViewSound
  repeat' (first | exact focus | exact profile_reset_sound | decide | constructor)

/-- A MOUNTED store with page 0 STORED in lesson 0 on blocks 68 to 83 and page 3 being saved. -/
def shelf : Catalogue :=
  { mountedCat with
    lessons := mountedCat.lessons.setIfInBounds 0 { state := .live, name := [0x41], count := 1 }
    pages := mountedCat.pages.setIfInBounds 3 { state := .writing, seq := 3, saveSeq := 47 }
    blocks := ((List.range 16).map (68 + ·)).foldl (fun v g => v.setIfInBounds g (some .used)) mountedCat.blocks
    reserved := some 16 }

/-- A slot of each kind of use, FROZEN shown, the last line of a frame taken, a save rendering from slot 5, and the
frame's end to come. -/
def atWorkAll : State :=
  let put (n : Nat) (x : Slot) (s : State) : State := s.setSlot n x
  put 0 (sensorSlot 40 1 { freeze := true, scanT := true }) (put 1 (pageSlot .text 1 52 { page := true })
    (put 5 (sensorSlot 45 5 { saveA := true }) (put 6 (sensorSlot 46 6 { scanP := true })
      { receiving 3072 with
        pending := [.frameEndPacket]
        disp := { mode := .frozen, ref := none }
        opp := { idle.opp with ctx := { kind := .normal, live := some 6 } }
        opt := { idle.opt with ctx := { kind := .normal, live := some 0 } }
        cat := shelf
        cp0 := { openPort with lesson := some 0 }
        sre := { jobs := [job .rendering 3 (some 0)], recalling := none } })))

theorem atWorkAll_page (i : Nat) : atWorkAll.page i =
    if i = 0 then { state := .stored, lesson := 0, seq := 2, mode := .text, blocks := (List.range 16).map (68 + ·), saveSeq := 40 }
    else if i = 3 then { state := .writing, seq := 3, saveSeq := 47 } else {} := by
  by_cases h0 : i = 0
  · subst h0; decide +kernel
  by_cases h3 : i = 3
  · subst h3; decide +kernel
  by_cases h : i < 1024 <;>
    simp [atWorkAll, State.setSlot, State.page, shelf, mountedCat, Catalogue.reset, h, h0, h3, Ne.symm h0, Ne.symm h3]

theorem atWorkAll_lesson (n : Nat) (h : n ≠ 0) : atWorkAll.lesson n = {} := by
  by_cases hn : n < 64 <;>
    simp [atWorkAll, State.setSlot, State.lesson, shelf, mountedCat, Catalogue.reset, hn, Ne.symm h]

theorem atWorkAll_listed (i g : Nat) (hg : g ∈ (atWorkAll.page i).blocks) :
    i = 0 ∧ g ∈ (List.range 16).map (68 + ·) := by
  rw [atWorkAll_page] at hg
  split at hg
  · exact ⟨by assumption, hg⟩
  · split at hg <;> cases hg

theorem atWorkAll_pageLesson (i : Nat) : (atWorkAll.page i).lesson = 0 := by
  rw [atWorkAll_page]
  repeat' split
  all_goals rfl

theorem atWorkAll_count : (atWorkAll.lesson 0).count =
    ((List.range 1024).filter fun p => decide ((atWorkAll.page p).state = .stored ∧ (atWorkAll.page p).lesson = 0)).length := by
  simp only [atWorkAll_page]
  decide +kernel

theorem atWorkAll_bare (n : Nat) (h : n ≠ 0) : Bare n atWorkAll :=
  ⟨fun p _ _ => by rw [atWorkAll_pageLesson]; exact Ne.symm h, fun j hj => by cases List.mem_singleton.1 hj; exact Ne.symm h,
    fun q e => by cases q <;> simp [atWorkAll, State.setSlot, State.port, receiving, idle, openPort, Port.reset] at e
                  exact h e.symm⟩

theorem one_of_pairs {f : Nat → Bool} (h : ∀ m < 10, ∀ n < 10, f m = true → f n = true → m = n) :
    ∀ m n, m < 10 → n < 10 → f m = true → f n = true → m = n := fun m n hm hn => h m hm n hn

theorem atWorkAll_slots : SlotsSound atWorkAll where
  held := by decide +kernel
  freeze := one_of_pairs (by decide +kernel)
  page := one_of_pairs (by decide +kernel)
  saveA := one_of_pairs (by decide +kernel)
  saveB := one_of_pairs (by decide +kernel)
  filling := fun m n hm hn => (by decide +kernel : ∀ m < 10, ∀ n < 10, (atWorkAll.slot m).state = .filling →
    (atWorkAll.slot n).state = .filling → m = n) m hm n hn
  receiving := by decide +kernel
  loading := fun n hn => ⟨fun h => absurd h ((by decide +kernel : ∀ n < 10, (atWorkAll.slot n).state ≠ .loading) n hn),
    fun ⟨_, h, _⟩ => by cases h⟩
  loadingKind := fun n hn h => absurd h ((by decide +kernel : ∀ n < 10, (atWorkAll.slot n).state ≠ .loading) n hn)
  recalled := fun r h => by cases h
  ready := fun n hn h => ((by decide +kernel : ∀ n < 10, (atWorkAll.slot n).state = .ready →
    (atWorkAll.slot n).kind = some .sensor ∨ ((atWorkAll.slot n).kind = some PageMode.text.kind ∧
      (atWorkAll.slot n).holders ≠ {})) n hn h).imp id fun x => ⟨⟨.text, x.1⟩, x.2⟩
  projector := by unfold ScansItsFrame; decide +kernel
  tap := by unfold ScansItsFrame; decide +kernel
  saving := fun n hn x h => ⟨job .rendering 3 (some 0), .head _, rfl, by
    have : ∀ n < 10, (atWorkAll.slot n).holders.saveB = false ∧ ((atWorkAll.slot n).holders.saveA = true → n = 5) := by
      decide +kernel
    cases x
    · rw [(this n hn).2 h]; rfl
    · exact absurd ((this n hn).1.symm.trans h) (by decide)⟩

theorem atWorkAll_catalogue : CatalogueSound atWorkAll where
  store :=
    { idle := fun h => absurd rfl h
      clear := fun h => by rcases h with h | ⟨_, h, _⟩ <;> cases h
      scanned := fun h => by cases h
      mount := by decide +kernel }
  blocks :=
    { image := fun p _ _ g hg => (by decide +kernel : ∀ g ∈ (List.range 16).map (68 + ·), imageBlock atWorkAll.cat g = true)
        g (atWorkAll_listed p g hg).2
      once := fun p _ _ => by rw [atWorkAll_page]; repeat' split
                              all_goals decide
      used := fun _ p _ _ g hg => (by decide +kernel : ∀ g ∈ (List.range 16).map (68 + ·), atWorkAll.block g = some .used)
        g (atWorkAll_listed p g hg).2
      apart := fun _ p q _ _ hn _ _ g h1 h2 => hn ((atWorkAll_listed p g h1).1.trans (atWorkAll_listed q g h2).1.symm)
      checked := fun g n h => by cases h
      erased := fun g h => by cases h }
  jobs :=
    { pages := by decide +kernel
      writing := fun j hj => by cases List.mem_singleton.1 hj; decide +kernel
      unwritten := fun j hj _ => by cases List.mem_singleton.1 hj; rfl
      waits := fun h => by obtain ⟨j, hj, e⟩ := h; cases List.mem_singleton.1 hj; cases e
      reserved := fun _ => rfl }
  tasks :=
    { lessons := fun t h => by cases h
      lessonOnce := .nil
      retires := fun t h => by cases h
      retireOnce := .nil
      commits := fun t h => by cases h
      commitOnce := .nil }
  lessons :=
    { count := fun _ n hn => by
        by_cases h : n = 0
        · subst h; exact atWorkAll_count
        · rw [atWorkAll_lesson n h]
          refine (List.length_eq_zero_iff.2 (List.filter_eq_nil_iff.2 fun p _ => ?_)).symm
          simp only [decide_eq_true_eq, not_and]
          exact fun _ => by rw [atWorkAll_pageLesson]; exact Ne.symm h
      bare := fun _ n hn e => atWorkAll_bare n fun h => by subst h; revert e; decide +kernel
      created := fun t h => by cases h
      wiped := fun t h => by cases h
      current := fun q n e => by
        cases q <;> simp [atWorkAll, State.setSlot, State.port, receiving, idle, openPort, Port.reset] at e
        subst e
        exact ⟨rfl, by decide, .inl (by decide +kernel)⟩
      reclaimed := fun n h => by cases h }
  clients :=
    { reclaim := by decide +kernel
      erase := fun w h => by cases h
      mount := by decide +kernel
      scans := fun w h => by cases h
      probes := fun w h => by cases h
      scanning := fun x h => by cases h
      polls := fun x h => by cases h }

theorem witness_SlotsStaySoundAndAChoiceExists : SlotsSound atWorkAll ∧ CatalogueSound atWorkAll ∧
    occupancy atWorkAll = 5 := ⟨atWorkAll_slots, atWorkAll_catalogue, by decide +kernel⟩

theorem witness_CatalogueStaysSound : SlotsSound atWorkAll ∧ CatalogueSound atWorkAll ∧ ∃ t, Steps atWorkAll t :=
  ⟨atWorkAll_slots, atWorkAll_catalogue, steps_of_goesOn _ (by decide +kernel)⟩

end Sys2Proof.Tests
end

section
/-! SUPPORT. The lamp's events and SET_LAMP, and the requests of the scene statistics and of the enhancement record:
at a port that takes requests each is its own effect after the idle timer or the wake (R187). -/

namespace Sys2Proof.Machine

/-! ## The lamp -/

/-- R115: the duty a period start latches, by its three causes of darkness. -/
theorem periodDuty_eq (i : Inputs) (l : LampIdle) :
    periodDuty i l = if l.doze = true ∨ i.lampFault = true ∨ l.latch = true then 0 else l.level := by
  simp [periodDuty, or_assoc]

/-- R29, R115: a period start changes the duty, and the reseed flag where the duty differs from the one before. -/
theorem periodStart_eq (s : State) :
    periodStart s = { s with
      liu := { s.liu with duty := periodDuty s.inputs s.liu }
      sst := { s.sst with reseed := s.sst.reseed || !decide (periodDuty s.inputs s.liu = s.liu.duty) } } := by
  by_cases h : periodDuty s.inputs s.liu = s.liu.duty
  · simp [periodStart, h]
  · simp [periodStart, setReseed, h]

/-- R114: a lamp period has 1,024 counts. -/
theorem length_lampPeriod (l : LampIdle) : (lampPeriod l).length = 1024 := by
  simp [lampPeriod, lampPeriodCounts]

/-- R114: the lamp output at a count. -/
theorem getElem?_lampPeriod (l : LampIdle) {n : Nat} (h : n < 1024) :
    (lampPeriod l)[n]? = some (decide (n < l.duty)) := by
  simp [lampPeriod, lampPeriodCounts, lampHigh, h]

/-- R117: notices to other ports leave what LAMP_STATE reports. -/
@[simp] theorem lampField_postOthers (p : PortId) (n : Notice) (s : State) :
    lampField (postOthers p n s) = lampField s := by
  simp [lampField]

/-- R117, R187: SET_LAMP at a port that takes requests. -/
theorem exec_setLamp_serves {p : PortId} {s : State} (h : Serves p s) (level : Half) :
    exec (.setLamp p level) s = .next (takeSetLamp p level (requestTaken p s)) := by
  simp only [exec, execSetLamp]
  exact submit_serves h _ _ (by simp [halfBytes])

/-- Settles O27: the period start and both fault commands act on any state, SET_LAMP on the state its taking leaves. -/
theorem lampFollowsLevelFaultAndDoze : Obligations.LampFollowsLevelFaultAndDoze := by
  refine ⟨fun s => ⟨?period, rfl, ?falls⟩, fun l => ⟨length_lampPeriod l, fun n hn => ?count⟩,
    fun p level s hs => ?request⟩
  case period =>
    dsimp only
    rw [← periodDuty_eq, ← periodStart_eq]
    rfl
  case falls => simp only [exec, execLampFaultInactive, lampFaultFalls]; rfl
  case count => simp [getElem?_lampPeriod l hn]
  case request =>
    rw [exec_setLamp_serves hs, takeSetLamp, lampField_postOthers]
    simp only [lampNotice, lampField, clamp, Nat.zero_max]
    rfl

/-! ## The scene statistics -/

/-- R36, R187: GET_SCENE at a port that takes requests. -/
theorem exec_getScene_serves {p : PortId} {s : State} (h : Serves p s) (sectionByte item source : Byte) :
    exec (.getScene p sectionByte item source) s =
      .next (takeGetScene p sectionByte item source (requestTaken p s)) := by
  simp only [exec, execGetScene]
  exact submit_serves h _ _ (by simp)

/-- R33, R187: SET_MOTION_DELTA at a port that takes requests. -/
theorem exec_setMotionDelta_serves {p : PortId} {s : State} (h : Serves p s) (delta : Byte) :
    exec (.setMotionDelta p delta) s = .next (takeSetMotionDelta p delta (requestTaken p s)) := by
  simp only [exec, execSetMotionDelta]
  exact submit_serves h _ _ (by simp)

/-- R36: the MAP section of a part that exists. -/
theorem takeGetScene_map (p : PortId) {item : Byte} (h : item.toNat ≤ 2) (source : Byte) (s : State) :
    takeGetScene p 1 item source s = answer p .ok 0x28 (mapField s.sst.map item.toNat) s :=
  if_neg (Nat.not_lt.2 h)

/-- R36: GET_SCENE of a section above TILES. -/
theorem takeGetScene_badSection (p : PortId) {sectionByte : Byte} (h : 2 < sectionByte.toNat) (item source : Byte)
    (s : State) : takeGetScene p sectionByte item source s = answer p .badParam 0x28 [] s := by
  unfold takeGetScene
  split
  case h_1 | h_2 | h_3 => omega
  case h_4 => rfl

/-- R36: the slot a TILES source names, for the two sources that there are. -/
theorem tileSource_some {source : Byte} {s : State} {slot : Option Nat}
    (h : (source = 0 ∧ slot = newestReady s) ∨ (source = 1 ∧ slot = holderSlot s .freeze)) :
    tileSource source s = some slot := by
  obtain ⟨rfl, rfl⟩ | ⟨rfl, rfl⟩ := h <;> rfl

/-- R36: no other source names a slot. -/
theorem tileSource_none {source : Byte} (h : 1 < source.toNat) (s : State) : tileSource source s = none := by
  unfold tileSource
  split
  case h_1 | h_2 => omega
  case h_3 => rfl

/-- R36: the TILES section of a row and a source that exist, where the source names no slot. -/
theorem takeTiles_noFrame (p : PortId) {row source : Byte} {s : State} (hrow : row.toNat ≤ 23)
    (h : tileSource source s = some none) : takeTiles p row source s = answer p .noFrame 0x28 [] s := by
  rw [takeTiles, if_neg (Nat.not_lt.2 hrow), h]

/-- R36: the TILES section of a row of the slot that the source names. -/
theorem takeTiles_slot (p : PortId) {row source : Byte} {s : State} {n : Nat} (hrow : row.toNat ≤ 23)
    (h : tileSource source s = some (some n)) :
    takeTiles p row source s = answer p .ok 0x28
      (u16 ((s.slot n).frame.getD 0) ++ tileRowField ((s.slot n).stats.getD []) row.toNat) s := by
  rw [takeTiles, if_neg (Nat.not_lt.2 hrow), h]

/-- R36, log 44: the TILES section of a row or a source that does not exist. -/
theorem takeTiles_bad (p : PortId) {row source : Byte} (h : 23 < row.toNat ∨ 1 < source.toNat) (s : State) :
    takeTiles p row source s = answer p .badParam 0x28 [] s := by
  unfold takeTiles
  split
  · rfl
  · rename_i hrow
    rw [tileSource_none (h.resolve_left hrow)]

/-- Settles O10: GET_SCENE section by section, then SET_MOTION_DELTA. -/
theorem sceneRequestsReportStatistics : Obligations.SceneRequestsReportStatistics := by
  intro p item source delta s hs r
  simp only [exec_getScene_serves hs, exec_setMotionDelta_serves hs]
  refine ⟨rfl, fun hpart => ?map, fun slot hrow hslot => ?tiles, fun sectionByte hbad => ?refused, rfl⟩
  case map => rw [takeGetScene_map p hpart]; rfl
  case tiles =>
    cases slot with
    | none => exact congrArg _ (takeTiles_noFrame p hrow (tileSource_some hslot))
    | some n =>
      refine congrArg _ ((takeTiles_slot p hrow (tileSource_some hslot)).trans ?_)
      simp only [tileRowField, entryList, List.append_assoc]
  case refused =>
    obtain hsection | ⟨rfl, hpart⟩ | ⟨rfl, hrow⟩ := hbad
    · rw [takeGetScene_badSection p hsection]
    · exact congrArg _ (if_pos hpart)
    · exact congrArg _ (takeTiles_bad p hrow r)

/-! ## The enhancement record -/

/-- R69: a flatten byte other than ON and OFF. -/
theorem onOff?_none {b : Byte} (h : 1 < b.toNat) : onOff? b = none := by
  unfold onOff?
  split
  case h_1 | h_2 => omega
  case h_3 => rfl

/-- R69, R187: SET_ENHANCE at a port that takes requests; its five optional bytes fit a frame. -/
theorem exec_setEnhance_serves {p : PortId} {s : State} (h : Serves p s)
    (flatten sharpen core threshold floor : Option Byte) :
    exec (.setEnhance p flatten sharpen core threshold floor) s =
      .next (takeSetEnhance p flatten sharpen core threshold floor (requestTaken p s)) := by
  have hone (f : Option Byte) : (optionalByte f).length ≤ 1 := by cases f <;> simp [optionalByte]
  simp only [exec, execSetEnhance]
  refine submit_serves h _ _ ?_
  have := hone flatten
  have := hone sharpen
  have := hone core
  have := hone threshold
  have := hone floor
  simp only [List.length_append, List.length_singleton]
  omega

/-- R70, R187: GET_ENHANCE at a port that takes requests. -/
theorem exec_getEnhance_serves {p : PortId} {s : State} (h : Serves p s) :
    exec (.getEnhance p) s = .next (takeGetEnhance p (requestTaken p s)) := by
  simp only [exec, execGetEnhance]
  exact submit_serves h _ _ (by simp)

/-- R30: the paper floor after a request. -/
def floorTaken (floor : Option Byte) (s : State) : Nat :=
  match floor with
  | none => s.sst.floor
  | some b => max 32 (min 192 b.toNat)

/-- R30: taking the paper floor changes it, and the reseed flag where it differs from the one before. -/
theorem takeFloor_eq (floor : Option Byte) (s : State) :
    takeFloor floor s = { s with sst := { s.sst with
      floor := floorTaken floor s
      reseed := s.sst.reseed || !decide (floorTaken floor s = s.sst.floor) } } := by
  cases floor with
  | none => simp [takeFloor, floorTaken]
  | some b =>
    by_cases h : max 32 (min 192 b.toNat) = s.sst.floor
    · simp [takeFloor, floorTaken, clamp, h]
    · simp [takeFloor, floorTaken, clamp, setReseed, h]

/-- R69: the record SET_ENHANCE leaves. -/
def enhanceTaken (flatten sharpen core threshold : Option Byte) (e : Enhance) : Enhance where
  flatten := (flatten.bind onOff?).getD e.flatten
  sharpen := (sharpen.map fun b => clamp 0 31 b.toNat).getD e.sharpen
  core := (core.map fun b => clamp 0 31 b.toNat).getD e.core
  threshold := (threshold.map fun b => clamp 1 254 b.toNat).getD e.threshold

/-- R69: SET_ENHANCE whose flatten field, where it is carried, is ON or OFF. -/
theorem takeSetEnhance_ok (p : PortId) {flatten : Option Byte}
    (hf : flatten = none ∨ flatten = some 0 ∨ flatten = some 1) (sharpen core threshold floor : Option Byte)
    (s : State) :
    takeSetEnhance p flatten sharpen core threshold floor s =
      let e := enhanceTaken flatten sharpen core threshold s.ren.enh
      let f := floorTaken floor s
      answer p .ok 0x18 (enhanceField e ++ u8 f)
        (postOthers p { kind := .enhanceChanged, contents := enhanceField e ++ u8 f ++ u8 (portNumber p) }
          { s with
            ren := { s.ren with enh := e }
            sst := { s.sst with floor := f, reseed := s.sst.reseed || !decide (f = s.sst.floor) } }) := by
  have hon : ¬ (flatten.map fun b => (onOff? b).isNone).getD false = true := by
    obtain rfl | rfl | rfl := hf <;> decide
  rw [takeSetEnhance, if_neg hon]
  simp only [takeFloor_eq, postOthers_sst]
  rfl

/-- R69: SET_ENHANCE whose flatten field is neither ON nor OFF. -/
theorem takeSetEnhance_bad (p : PortId) {b : Byte} (h : 1 < b.toNat) (sharpen core threshold floor : Option Byte)
    (s : State) :
    takeSetEnhance p (some b) sharpen core threshold floor s = answer p .badParam 0x18 [] s :=
  if_pos (by simp [onOff?_none h])

/-- Settles O16: SET_ENHANCE with a good and with a bad flatten field, and GET_ENHANCE. -/
theorem enhanceRequestsClampAndReport : Obligations.EnhanceRequestsClampAndReport := by
  intro p flatten sharpen core threshold floor s hs r fields
  refine ⟨fun hf => ?ok, ?bad, ?report⟩
  case bad =>
    rintro b rfl hb
    rw [exec_setEnhance_serves hs, takeSetEnhance_bad p hb]
  case report => exact exec_getEnhance_serves hs
  case ok =>
    intro e f t
    have he : enhanceTaken flatten sharpen core threshold r.ren.enh = e := by
      have hflatten : (flatten.bind onOff?).getD r.ren.enh.flatten = e.flatten := by
        obtain rfl | rfl | rfl := hf <;> rfl
      have hsharpen : (sharpen.map fun b => clamp 0 31 b.toNat).getD r.ren.enh.sharpen = e.sharpen := by
        cases sharpen <;> simp [e, clamp]
      have hcore : (core.map fun b => clamp 0 31 b.toNat).getD r.ren.enh.core = e.core := by
        cases core <;> simp [e, clamp]
      have hthreshold : (threshold.map fun b => clamp 1 254 b.toNat).getD r.ren.enh.threshold = e.threshold := by
        cases threshold <;> rfl
      rw [enhanceTaken, hflatten, hsharpen, hcore, hthreshold]
    have hfloor : floorTaken floor r = f := by cases floor <;> rfl
    rw [exec_setEnhance_serves hs, takeSetEnhance_ok p hf]
    simp only [r, he, hfloor]
    rfl

end Sys2Proof.Machine
end

section
/-! SUPPORT. What a publish does to the paper map, the means and the motion count (R27, R28, R32), and the flattening
gain of a map entry (R31). -/

namespace Sys2Proof.Machine

/-! ## The paper map -/

/-- R28: an update keeps the number of entries. -/
theorem length_updateMap (reseed : Bool) (floor : Nat) (record : List TileStat) (map : List Nat) :
    (updateMap reseed floor record map).length = map.length := by
  simp [updateMap]

/-- R28: the entry of a tile that has a record. -/
theorem getElem?_updateMap (reseed : Bool) (floor : Nat) {record : List TileStat} {map : List Nat} {i w : Nat}
    {x : TileStat} (hw : map[i]? = some w) (hx : record[i]? = some x) :
    (updateMap reseed floor record map)[i]? = some (mapEntry reseed floor w x.white) := by
  simp [updateMap, hw, hx]

/-- R28: with the floor at least 32 and whites at most 255, an entry stays between 32 and 255. -/
theorem mapEntry_range (reseed : Bool) {floor w white : Nat} (hf : 32 ≤ floor) (hw : 32 ≤ w) (hw' : w ≤ 255)
    (hx : white ≤ 255) : 32 ≤ mapEntry reseed floor w white ∧ mapEntry reseed floor w white ≤ 255 := by
  unfold mapEntry
  split
  · exact ⟨hw, hw'⟩
  · split <;> omega

/-! ## The motion count -/

/-- The distance of two luma values is the absolute difference. -/
theorem lumaGap_eq_natAbs (a b : Nat) : lumaGap a b = ((a : Int) - b).natAbs := by
  unfold lumaGap
  omega

/-- Counting over the pairs of two lists of one length is counting over their places. -/
theorem countP_zip_eq_countP_range {α β : Type} (q : α → β → Bool) (d : α) (e : β) :
    ∀ (l : List α) (m : List β), l.length = m.length →
      (l.zip m).countP (fun x => q x.1 x.2) = (List.range m.length).countP fun i => q (l.getD i d) (m.getD i e)
  | [], [], _ => rfl
  | a :: l, b :: m, h => by
    have ih := countP_zip_eq_countP_range q d e l m (Nat.succ.inj h)
    simp only [List.zip_cons_cons, List.countP_cons, List.length_cons, List.range_succ_eq_map, List.countP_map, ih]
    rfl

/-- R32: the number of tiles whose mean is the motion delta or more away from the previous one. -/
def movedTiles (delta : Nat) (means : List Nat) (record : List TileStat) : Nat :=
  (List.range 768).countP fun i =>
    decide (delta ≤ ((means.getD i 0 : Int) - ((record[i]?.map TileStat.mean).getD 0 : Int)).natAbs)

/-- R32: the motion count against previous means. -/
theorem motionCount_some (delta : Nat) {means : List Nat} {record : List TileStat} (hm : means.length = 768)
    (hr : record.length = 768) : motionCount delta (some means) record = movedTiles delta means record := by
  have h := countP_zip_eq_countP_range (fun m x => decide (delta ≤ lumaGap m x)) 0 0 means (record.map TileStat.mean)
    (by simp [hm, hr])
  simp only [List.zip_map_right, List.countP_map, List.length_map, hr, List.getD_eq_getElem?_getD,
    List.getElem?_map, lumaGap_eq_natAbs] at h
  simp only [motionCount, movedTiles, ← List.countP_eq_length_filter, lumaGap_eq_natAbs,
    List.getD_eq_getElem?_getD]
  exact h

/-- R32: at most all 768 tiles have moved. -/
theorem motionCount_le (delta : Nat) {prev : Option (List Nat)} {record : List TileStat} (hr : record.length = 768) :
    motionCount delta prev record ≤ 768 := by
  cases prev with
  | none => exact Nat.zero_le _
  | some means =>
    calc motionCount delta (some means) record
        ≤ (means.zip record).length := List.length_filter_le ..
      _ ≤ record.length := by rw [List.length_zip]; exact Nat.min_le_right ..
      _ = 768 := hr

/-! ## The flattening gain -/

/-- R31: the gain of an entry up to 63 is clamped to 1024. -/
theorem flatteningGain_of_le {w : Nat} (hw : 32 ≤ w) (h : w ≤ 63) : flatteningGain w = 1024 := by
  have : 1024 ≤ (65280 + w / 2) / w := (Nat.le_div_iff_mul_le (by omega)).2 (by omega)
  simp only [flatteningGain, clamp]
  omega

/-- R31: the quotient of an entry from 64 to 255 needs no clamp. -/
theorem gainQuotient_range {w : Nat} (hw : 64 ≤ w) (h : w ≤ 255) :
    256 ≤ (65280 + w / 2) / w ∧ (65280 + w / 2) / w ≤ 1024 :=
  ⟨(Nat.le_div_iff_mul_le (by omega)).2 (by omega), Nat.div_le_of_le_mul (by omega)⟩

/-- R31: the gain of an entry from 64 on is the rounded quotient. -/
theorem flatteningGain_of_ge {w : Nat} (hw : 64 ≤ w) (h : w ≤ 255) : flatteningGain w = (65280 + w / 2) / w := by
  obtain ⟨hlow, hhigh⟩ := gainQuotient_range hw h
  simp only [flatteningGain, clamp]
  omega

/-- R31: a gain lies between 256 and 1024. -/
theorem flatteningGain_range (w : Nat) : 256 ≤ flatteningGain w ∧ flatteningGain w ≤ 1024 := by
  simp only [flatteningGain, clamp]
  omega

/-- R31, R60: scaled by its own gain, an entry from 64 on comes to 254 at the least: w times the quotient falls short
of 65,280 by less than w / 2. -/
theorem le_flattened_self {w : Nat} (hw : 64 ≤ w) (h : w ≤ 255) : 254 ≤ flattened w (flatteningGain w) := by
  rw [flatteningGain_of_ge hw h, flattened]
  have hdiv := Nat.div_add_mod (65280 + w / 2) w
  have hmod := Nat.mod_lt (65280 + w / 2) (show 0 < w by omega)
  generalize w * ((65280 + w / 2) / w) = scaled at *
  omega

/-- R31: a larger entry has no larger gain. -/
theorem flatteningGain_antitone {v w : Nat} (hv : 0 < v) (h : v ≤ w) : flatteningGain w ≤ flatteningGain v := by
  have hquotient : (65280 + w / 2) / w ≤ (65280 + v / 2) / v := by
    have hmul := Nat.div_mul_le_self (65280 + w / 2) w
    generalize (65280 + w / 2) / w = q at *
    refine (Nat.le_div_iff_mul_le hv).2 ?_
    rcases Nat.eq_zero_or_pos q with rfl | hq
    · omega
    · obtain ⟨d, rfl⟩ := Nat.exists_eq_add_of_le h
      have hd : d ≤ q * d := Nat.le_mul_of_pos_left d hq
      rw [Nat.mul_add] at hmul
      omega
  simp only [flatteningGain, clamp]
  omega

/-- Settles O9: the clauses on a publish, on one entry of the map and on its gain, each from the lemmas above. -/
theorem publishUpdatesMapMeansAndMotion : Obligations.PublishUpdatesMapMeansAndMotion := by
  refine ⟨fun record t hr ht hp => ?publish, fun reseed floor w white hf hw hw' hx => mapEntry_range reseed hf hw hw' hx,
    fun w hw hw' => ⟨(flatteningGain_range w).1, (flatteningGain_range w).2, flatteningGain_of_le hw,
      fun h => ⟨flatteningGain_of_ge h hw', le_flattened_self h hw'⟩⟩,
    flatteningGain_of_ge (by decide) (by decide), fun v w hv h _ => flatteningGain_antitone (by omega) h⟩
  case publish =>
    refine ⟨(length_updateMap ..).trans ht, fun i w x hw hx => getElem?_updateMap t.reseed t.floor hw hx,
      fun hnone => ?first, fun means hsome => ?next, fun m hm => ?count, rfl, rfl, rfl⟩
    case first => simp only [publishStatistics, hnone, motionCount]
    case next =>
      simp only [publishStatistics, hsome, motionCount_some t.delta (hp means hsome) hr]
      rfl
    case count =>
      obtain rfl : motionCount t.delta t.prev record = m := Option.some.inj hm
      exact ⟨motionCount_le t.delta hr, decide_eq_true_iff⟩

end Sys2Proof.Machine
end

section
/-! SUPPORT. The record of a tile after the 3,072 rows of a frame (R23 to R25): what the running sums hold after each
row, and those sums regrouped by tile, by block and by every fourth row. -/

namespace Sys2Proof.Machine

/-! ## Sums over a range -/

/-- The sum of f over the numbers below n, in the form of the statements. -/
def rangeSum (n : Nat) (f : Nat → Nat) : Nat := ((List.range n).map f).sum

theorem rangeSum_eq_sum (n : Nat) (f : Nat → Nat) : ((List.range n).map f).sum = rangeSum n f := rfl

theorem rangeSum_zero (f : Nat → Nat) : rangeSum 0 f = 0 := rfl

theorem rangeSum_add (m n : Nat) (f : Nat → Nat) :
    rangeSum (m + n) f = rangeSum m f + rangeSum n fun i => f (m + i) := by
  simp only [rangeSum, List.range_add, List.map_append, List.map_map, List.sum_append_nat, Function.comp_def]

theorem rangeSum_succ (f : Nat → Nat) (n : Nat) : rangeSum (n + 1) f = rangeSum n f + f n := rangeSum_add n 1 f

theorem rangeSum_succ' (f : Nat → Nat) (n : Nat) : rangeSum (n + 1) f = f 0 + rangeSum n fun i => f (i + 1) := by
  simp only [rangeSum, List.range_succ_eq_map, List.map_cons, List.map_map, List.sum_cons, Function.comp_def]

theorem rangeSum_congr {n : Nat} {f g : Nat → Nat} (h : ∀ i < n, f i = g i) : rangeSum n f = rangeSum n g :=
  congrArg List.sum (List.map_congr_left fun i hi => h i (List.mem_range.1 hi))

theorem rangeSum_le {n k : Nat} {f : Nat → Nat} (h : ∀ i < n, f i ≤ k) : rangeSum n f ≤ n * k := by
  induction n with
  | zero => exact Nat.zero_le _
  | succ n ih =>
    rw [rangeSum_succ, Nat.succ_mul]
    exact Nat.add_le_add (ih fun i hi => h i (Nat.lt_succ_of_lt hi)) (h n (Nat.lt_succ_self n))

theorem rangeSum_eq_zero {n : Nat} {f : Nat → Nat} (h : ∀ i < n, f i = 0) : rangeSum n f = 0 :=
  Nat.le_zero.1 (rangeSum_le (k := 0) fun i hi => Nat.le_of_eq (h i hi))

/-- A sum in groups of n. -/
theorem rangeSum_mul (m n : Nat) (f : Nat → Nat) :
    rangeSum (m * n) f = rangeSum m fun a => rangeSum n fun b => f (n * a + b) := by
  induction m with
  | zero => rw [Nat.zero_mul, rangeSum_zero, rangeSum_zero]
  | succ m ih => rw [Nat.succ_mul, rangeSum_add, ih, rangeSum_succ, Nat.mul_comm m n]

/-- A sum to which one number alone contributes. -/
theorem rangeSum_single {m a : Nat} (h : a < m) (f : Nat → Nat) :
    (rangeSum m fun i => if i = a then f i else 0) = f a := by
  induction m with
  | zero => exact absurd h (Nat.not_lt_zero a)
  | succ m ih =>
    rw [rangeSum_succ]
    by_cases ha : m = a
    · rw [if_pos ha, rangeSum_eq_zero fun i hi => if_neg (by omega), Nat.zero_add, ha]
    · rw [if_neg ha, ih (by omega), Nat.add_zero]

/-- A sum to which the numbers of one group of n alone contribute. -/
theorem rangeSum_group {k m n a : Nat} (hk : k = m * n) (h : a < m) (f : Nat → Nat) :
    (rangeSum k fun y => if y / n = a then f y else 0) = rangeSum n fun b => f (n * a + b) := by
  have hgroup (i : Nat) : (rangeSum n fun b => if (n * i + b) / n = a then f (n * i + b) else 0) =
      if i = a then rangeSum n fun b => f (n * i + b) else 0 := by
    have hdiv (b : Nat) (hb : b < n) : (n * i + b) / n = i := by
      rw [Nat.mul_add_div (by omega), Nat.div_eq_of_lt hb, Nat.add_zero]
    by_cases hi : i = a
    · rw [if_pos hi]
      exact rangeSum_congr fun b hb => if_pos ((hdiv b hb).trans hi)
    · rw [if_neg hi]
      exact rangeSum_eq_zero fun b hb => if_neg fun hab => hi ((hdiv b hb).symm.trans hab)
  rw [hk, rangeSum_mul, rangeSum_congr fun i _ => hgroup i]
  exact rangeSum_single h fun i => rangeSum n fun b => f (n * i + b)

/-- A sum to which every fourth number alone contributes. -/
theorem rangeSum_fourth (m : Nat) (f : Nat → Nat) :
    (rangeSum (m * 4) fun y => if y % 4 = 0 then f y else 0) = rangeSum m fun j => f (4 * j) := by
  rw [rangeSum_mul]
  refine rangeSum_congr fun j _ => ?_
  have hmod (b : Nat) (hb : b < 4) : (4 * j + b) % 4 = 0 ↔ b = 0 := by omega
  calc (rangeSum 4 fun b => if (4 * j + b) % 4 = 0 then f (4 * j + b) else 0)
      = rangeSum 4 fun b => if b = 0 then f (4 * j + b) else 0 := rangeSum_congr fun b hb => by simp only [hmod b hb]
    _ = f (4 * j) := rangeSum_single (by decide) fun b => f (4 * j + b)

/-! ## Runs of luma values -/

/-- A run cut out of a listed function lists that function from the run's start on. -/
theorem take_drop_map_range {n a m : Nat} (h : a + m ≤ n) (f : Nat → Nat) :
    (((List.range n).map f).drop a).take m = (List.range m).map fun x => f (a + x) := by
  obtain ⟨k, rfl⟩ := Nat.exists_eq_add_of_le h
  simp [List.range_add, Function.comp_def]

/-- R25: the neighbour differences of n + 1 values are n differences. -/
theorem neighbourGaps_map_range (n : Nat) (f : Nat → Nat) :
    neighbourGaps ((List.range (n + 1)).map f) = rangeSum n fun x => lumaGap (f x) (f (x + 1)) := by
  induction n generalizing f with
  | zero => rfl
  | succ n ih =>
    have hcons (n : Nat) (f : Nat → Nat) :
        (List.range (n + 1)).map f = f 0 :: (List.range n).map fun i => f (i + 1) := by
      simp [List.range_succ_eq_map, Function.comp_def]
    have htail := ih fun i => f (i + 1)
    rw [hcons] at htail
    rw [hcons, hcons, neighbourGaps, htail, rangeSum_succ']

/-! ## One tile of the accumulation -/

/-- R23: what row y of the frame does to tile i. -/
def tileTakesRow (luma : Nat → List Nat) (i : Nat) (t : TileSums) (y : Nat) : TileSums :=
  if i / 32 = y / 128 then addSegment y (((luma y).drop (128 * (i % 32))).take 128) t else t

theorem getElem?_addRow (luma : Nat → List Nat) (y : Nat) (acc : List TileSums) (i : Nat) :
    (addRow y (luma y) acc)[i]? = acc[i]?.map fun t => tileTakesRow luma i t y := by
  simp [addRow, tileTakesRow, Function.comp_def]

/-- R23: over any rows, the sums of a tile depend on nothing but its own sums before. -/
theorem getElem?_foldl_addRow (luma : Nat → List Nat) (i : Nat) (rows : List Nat) (acc : List TileSums) :
    (rows.foldl (fun a y => addRow y (luma y) a) acc)[i]? =
      acc[i]?.map fun t => rows.foldl (tileTakesRow luma i) t := by
  induction rows generalizing acc with
  | nil => simp
  | cons y rows ih => simp [ih, getElem?_addRow, Function.comp_def]

/-- R25: the sum of the 127 neighbour differences of tile (c, ·) in row y. -/
def rowGaps (L : Nat → Nat → Nat) (c y : Nat) : Nat :=
  rangeSum 127 fun x => lumaGap (L y (128 * c + x)) (L y (128 * c + x + 1))

/-- R24, R25: the sums of tile (c, r) over the first n rows of the frame. -/
def sumsAfter (L : Nat → Nat → Nat) (c r n : Nat) : TileSums where
  sum := rangeSum n fun y => if y / 128 = r then rangeSum 128 fun x => L y (128 * c + x) else 0
  blocks := (List.range 64).map fun k => rangeSum n fun y =>
    if y / 16 = 8 * r + k / 8 then rangeSum 16 fun x => L y (128 * c + 16 * (k % 8) + x) else 0
  detail := rangeSum n fun y => if y / 128 = r then if y % 4 = 0 then rowGaps L c y else 0 else 0

/-- R24: the part of block column k in a tile's segment. -/
theorem blockSegment_sum (g : Nat → Nat) (k : Nat) :
    ((((List.range 128).map g).drop (16 * (k % 8))).take 16).sum = rangeSum 16 fun x => g (16 * (k % 8) + x) := by
  rw [take_drop_map_range (by omega), rangeSum_eq_sum]

/-- R23 to R25: a further row of the frame takes the sums over n rows to those over n + 1. -/
theorem tileTakesRow_sumsAfter (L : Nat → Nat → Nat) {c : Nat} (r n : Nat) (hc : c < 32) :
    tileTakesRow (fun y => (List.range 4096).map (L y)) (32 * r + c) (sumsAfter L c r n) n =
      sumsAfter L c r (n + 1) := by
  have hrow : (32 * r + c) / 32 = r := by omega
  have hcolumn : (32 * r + c) % 32 = c := by omega
  simp only [tileTakesRow, hrow, hcolumn]
  rw [take_drop_map_range (by omega)]
  by_cases h : n / 128 = r
  · have hband (k : Nat) (hk : k < 64) : n / 16 = 8 * r + k / 8 ↔ k / 8 = n % 128 / 16 := by omega
    rw [if_pos h.symm, addSegment, sumsAfter, sumsAfter, TileSums.mk.injEq]
    refine ⟨?total, ?perBlock, ?gaps⟩
    case total => rw [rangeSum_succ, if_pos h]; rfl
    case perBlock =>
      refine List.ext_getElem (by simp) fun k hk _ => ?_
      have hk : k < 64 := by simpa using hk
      simp only [List.getElem_map, List.getElem_zipIdx, List.getElem_range, Nat.zero_add, blockSegment_sum,
        rangeSum_succ _ n, hband k hk]
      split
      · simp only [Nat.add_assoc]
      · rfl
    case gaps =>
      rw [rangeSum_succ, if_pos h, neighbourGaps_map_range 127]
      split <;> rfl
  · have hband (k : Nat) (hk : k < 64) : ¬ n / 16 = 8 * r + k / 8 := by omega
    rw [if_neg (Ne.symm h), sumsAfter, sumsAfter, TileSums.mk.injEq]
    refine ⟨?_, List.map_congr_left fun k hk => ?_, ?_⟩
    · rw [rangeSum_succ, if_neg h, Nat.add_zero]
    · rw [rangeSum_succ, if_neg (hband k (List.mem_range.1 hk)), Nat.add_zero]
    · rw [rangeSum_succ, if_neg h, Nat.add_zero]

/-- R23: the sums of tile (c, r) after the first n rows of a frame. -/
theorem foldl_tileTakesRow (L : Nat → Nat → Nat) {c : Nat} (r n : Nat) (hc : c < 32) :
    (List.range n).foldl (tileTakesRow (fun y => (List.range 4096).map (L y)) (32 * r + c)) emptySums =
      sumsAfter L c r n := by
  induction n with
  | zero =>
    rw [List.range_zero, List.foldl_nil, sumsAfter, emptySums, TileSums.mk.injEq]
    exact ⟨rfl, by simp only [rangeSum_zero, List.map_const', List.length_range], rfl⟩
  | succ n ih =>
    rw [List.range_succ (n := n), List.foldl_append, ih, List.foldl_cons, List.foldl_nil,
      tileTakesRow_sumsAfter L r n hc]

/-! ## The sums of a whole frame -/

/-- R24: the sum of the 16,384 values of tile (c, r). -/
def tileTotal (L : Nat → Nat → Nat) (c r : Nat) : Nat :=
  rangeSum 128 fun y => rangeSum 128 fun x => L (128 * r + y) (128 * c + x)

/-- R24: the sum of the 256 values of block b of tile (c, r). -/
def blockTotal (L : Nat → Nat → Nat) (c r b : Nat) : Nat :=
  rangeSum 16 fun y => rangeSum 16 fun x => L (128 * r + 16 * (b / 8) + y) (128 * c + 16 * (b % 8) + x)

/-- R25: the neighbour differences of every fourth row of tile (c, r). -/
def tileGaps (L : Nat → Nat → Nat) (c r : Nat) : Nat := rangeSum 32 fun j => rowGaps L c (128 * r + 4 * j)

/-- R24, R25: after the 3,072 rows of a frame, tile (c, r) holds the sums of its own values, blocks and rows. -/
theorem sumsAfter_frame (L : Nat → Nat → Nat) (c : Nat) {r : Nat} (hr : r < 24) :
    sumsAfter L c r 3072 =
      { sum := tileTotal L c r, blocks := (List.range 64).map (blockTotal L c r), detail := tileGaps L c r } := by
  rw [sumsAfter, TileSums.mk.injEq]
  refine ⟨rangeSum_group (m := 24) (n := 128) rfl hr _, List.map_congr_left fun k hk => ?perBlock, ?gaps⟩
  case perBlock =>
    have hk := List.mem_range.1 hk
    rw [rangeSum_group (m := 192) (n := 16) rfl (by omega), blockTotal, Nat.mul_add, ← Nat.mul_assoc]
  case gaps =>
    rw [rangeSum_group (m := 24) (n := 128) rfl hr, tileGaps,
      ← rangeSum_fourth 32 fun y => rowGaps L c (128 * r + y)]
    exact rangeSum_congr fun y _ => by rw [show (128 * r + y) % 4 = y % 4 by omega]

/-- R23: the accumulation of a whole frame holds those sums for each tile. -/
theorem accumulation_frame (L : Nat → Nat → Nat) {c r : Nat} (hc : c < 32) (hr : r < 24) :
    ((List.range 3072).foldl (fun a y => addRow y ((List.range 4096).map (L y)) a) emptyAccumulation)[32 * r + c]? =
      some { sum := tileTotal L c r, blocks := (List.range 64).map (blockTotal L c r), detail := tileGaps L c r } := by
  have hempty : emptyAccumulation[32 * r + c]? = some emptySums := by
    rw [emptyAccumulation, List.getElem?_replicate, if_pos (show 32 * r + c < tileCount by rw [tileCount]; omega)]
  rw [getElem?_foldl_addRow (fun y => (List.range 4096).map (L y)), hempty, Option.map_some,
    foldl_tileTakesRow L r 3072 hc, sumsAfter_frame L c hr]

/-! ## The record of the sums, and its bounds -/

/-- R24: the white of a record is the largest of its block averages. -/
theorem tileRecord_white {t : TileSums} {block : Nat → Nat} (h : t.blocks = (List.range 64).map block) :
    (∀ b < 64, block b / 256 ≤ (tileRecord t).white) ∧ ∃ b < 64, (tileRecord t).white = block b / 256 := by
  have haverage (b : Nat) (hb : b < 64) : block b / 256 ∈ t.blocks.map fun b => b / 256 := by
    rw [h, List.map_map]
    exact List.mem_map_of_mem (f := (fun b => b / 256) ∘ block) (List.mem_range.2 hb)
  have hmax : (0 :: t.blocks.map fun b => b / 256).max? = some (tileRecord t).white := List.max?_cons'
  obtain ⟨hmem, hle⟩ := List.max?_eq_some_iff.1 hmax
  have hwhite : ∀ b < 64, block b / 256 ≤ (tileRecord t).white := fun b hb =>
    hle _ (List.mem_cons_of_mem _ (haverage b hb))
  refine ⟨hwhite, ?_⟩
  rcases List.mem_cons.1 hmem with hzero | hmem
  · have := hwhite 0 (by decide)
    exact ⟨0, by decide, by omega⟩
  · rw [h, List.map_map] at hmem
    obtain ⟨b, hb, hblock⟩ := List.mem_map.1 hmem
    exact ⟨b, List.mem_range.1 hb, hblock.symm⟩

section Bounds

variable {L : Nat → Nat → Nat} (hL : ∀ y x, L y x ≤ 255) (c r : Nat)
include hL

theorem tileTotal_le : tileTotal L c r ≤ 4177920 :=
  rangeSum_le (n := 128) (k := 128 * 255) fun _ _ => rangeSum_le fun _ _ => hL ..

theorem blockTotal_le (b : Nat) : blockTotal L c r b ≤ 65280 :=
  rangeSum_le (n := 16) (k := 16 * 255) fun _ _ => rangeSum_le fun _ _ => hL ..

theorem lumaGap_le (y x y' x' : Nat) : lumaGap (L y x) (L y' x') ≤ 255 := by
  have := hL y x
  have := hL y' x'
  unfold lumaGap
  omega

theorem tileGaps_le : tileGaps L c r ≤ 1036320 :=
  rangeSum_le (n := 32) (k := 127 * 255) fun _ _ => rangeSum_le fun _ _ => lumaGap_le hL ..

end Bounds

/-- R25: the neighbour differences as the statement writes them, the right value less the left one. -/
theorem tileGaps_eq (L : Nat → Nat → Nat) (c r : Nat) :
    tileGaps L c r = rangeSum 32 fun j => rangeSum 127 fun x =>
      ((L (128 * r + 4 * j) (128 * c + x + 1) : Int) - (L (128 * r + 4 * j) (128 * c + x) : Int)).natAbs :=
  rangeSum_congr fun _ _ => rangeSum_congr fun _ _ => by rw [lumaGap_eq_natAbs]; omega

/-- Settles O8: `accumulation_frame` gives the tile's sums, which are the statement's own sums, and the bounds follow. -/
theorem tileRecordIsTrueMeanWhiteDetail : Obligations.TileRecordIsTrueMeanWhiteDetail := by
  intro L hL acc c r hc hr
  refine ⟨_, accumulation_frame L hc hr, ?_⟩
  intro total block gap gaps
  have hgaps : tileGaps L c r = gaps := tileGaps_eq L c r
  obtain ⟨hwhite, b, hb, hlargest⟩ := tileRecord_white (t := {
    sum := tileTotal L c r, blocks := (List.range 64).map (blockTotal L c r), detail := tileGaps L c r }) rfl
  have htotal : total ≤ 4177920 := tileTotal_le hL c r
  have hblock : ∀ b, block b ≤ 65280 := blockTotal_le hL c r
  have hdetail : gaps ≤ 1036320 := hgaps ▸ tileGaps_le hL c r
  have hrecord : (tileRecord { sum := total, blocks := (List.range 64).map block, detail := tileGaps L c r }).detail =
      gaps / 16 := congrArg (· / 16) hgaps
  refine ⟨rfl, hwhite, ⟨b, hb, hlargest⟩, hrecord, ?mean, ?white, htotal, fun b _ => hblock b, hdetail, ?detail⟩
  case mean => exact Nat.div_le_of_le_mul (Nat.le_trans htotal (by decide))
  case white => exact Nat.le_trans (Nat.le_of_eq hlargest) (Nat.div_le_of_le_mul (Nat.le_trans (hblock b) (by decide)))
  case detail => exact Nat.le_trans (Nat.le_of_eq hrecord) (Nat.div_le_of_le_mul (Nat.le_trans hdetail (by decide)))

end Sys2Proof.Machine
end

section
/-! SUPPORT. The view's arithmetic: where the width of R40 is not raised to 2, what a window's size and place are
(R40, R41), that a target's shape alone decides them (R43), and how far glide steps come (R46, R50). -/

namespace Sys2Proof.Machine

/-! ## The size of a window -/

/-- The width of the largest window of a target's shape on a source (R40): the zoom divides it. -/
def baseWidth (sw sh wo ho : Nat) : Nat := min sw (sh * wo / ho)

/-- R40: the base width at a zoom, made even. -/
def evenWidth (base z : Nat) : Nat := base * 100 / z - base * 100 / z % 2

/-- R40: where the width is not raised to 2 it is the even one, and the height follows the target's shape. -/
theorem windowSize_eq {sw sh wo ho z : Nat} (hz : 0 < z) (h : 2 * z ≤ baseWidth sw sh wo ho * 100) :
    windowSize sw sh wo ho z =
      (evenWidth (baseWidth sw sh wo ho) z, max 1 (evenWidth (baseWidth sw sh wo ho) z * ho / wo)) := by
  have hraised : 2 ≤ baseWidth sw sh wo ho * 100 / z := (Nat.le_div_iff_mul_le hz).2 h
  have hmax : max 2 (evenWidth (baseWidth sw sh wo ho) z) = evenWidth (baseWidth sw sh wo ho) z := by
    unfold evenWidth
    omega
  simp only [windowSize, ← baseWidth.eq_def, ← evenWidth.eq_def, hmax]

theorem evenWidth_even (base z : Nat) : evenWidth base z % 2 = 0 := by
  unfold evenWidth
  omega

theorem two_le_evenWidth {base z : Nat} (hz : 0 < z) (h : 2 * z ≤ base * 100) : 2 ≤ evenWidth base z := by
  have hraised : 2 ≤ base * 100 / z := (Nat.le_div_iff_mul_le hz).2 h
  unfold evenWidth
  omega

/-- R40: from zoom 100 on the width is at most the base width. -/
theorem evenWidth_le {base z : Nat} (hz : 100 ≤ z) : evenWidth base z ≤ base :=
  calc evenWidth base z ≤ base * 100 / z := Nat.sub_le ..
    _ ≤ base := Nat.div_le_of_le_mul (by rw [Nat.mul_comm]; exact Nat.mul_le_mul_right base hz)

/-- R40: a larger zoom gives no larger width. -/
theorem evenWidth_antitone (base : Nat) {z z' : Nat} (hz : 0 < z) (h : z ≤ z') :
    evenWidth base z' ≤ evenWidth base z := by
  have hquotient : base * 100 / z' ≤ base * 100 / z := Nat.div_le_div_left h hz
  unfold evenWidth
  omega

/-- R40: a width up to the base width takes a height of the target's shape that fits the source. -/
theorem shapedHeight_le {w sw sh wo ho : Nat} (hw : w ≤ baseWidth sw sh wo ho) : w * ho / wo ≤ sh := by
  refine Nat.div_le_of_le_mul ?_
  calc w * ho ≤ sh * wo / ho * ho := Nat.mul_le_mul_right ho (Nat.le_trans hw (Nat.min_le_right ..))
    _ ≤ sh * wo := Nat.div_mul_le_self ..
    _ = wo * sh := Nat.mul_comm ..

/-- R40: a source on which some width is left has a height. -/
theorem height_pos_of_baseWidth_pos {sw sh wo ho : Nat} (h : 0 < baseWidth sw sh wo ho) : 0 < sh := by
  refine Nat.pos_of_ne_zero ?_
  rintro rfl
  simp [baseWidth] at h

/-! ## The place of a window -/

/-- R41: along one axis, a stretch of a given size whose centre is clamped lies inside the source, and its centre is
the one asked for where the clamp allows. -/
theorem clamped_inside {size source : Nat} (h : size ≤ source) (q : Nat) :
    let c := clamp (size / 2) (source - size + size / 2) q
    c - size / 2 + size ≤ source ∧ c = c - size / 2 + size / 2 ∧
      (size / 2 ≤ q → q ≤ source - size + size / 2 → c = q) := by
  simp only [clamp]
  omega

/-- R41: for an even size the two forms of the upper clamp agree. -/
theorem upper_clamp_even {size source : Nat} (heven : size % 2 = 0) (h : size ≤ source) :
    source - size / 2 = source - size + size / 2 := by
  omega

/-- R40: where its width is not raised to 2, the size of a window by name. -/
theorem windowOf_size {sw sh wo ho z : Nat} (hz : 0 < z) (h : 2 * z ≤ baseWidth sw sh wo ho * 100) (qx qy : Nat) :
    (windowOf sw sh wo ho z qx qy).w = evenWidth (baseWidth sw sh wo ho) z ∧
      (windowOf sw sh wo ho z qx qy).h = max 1 (evenWidth (baseWidth sw sh wo ho) z * ho / wo) := by
  rw [windowOf, windowSize_eq hz h]
  exact ⟨rfl, rfl⟩

/-- R40: where its width is not raised to 2, a window's size fits its source. -/
theorem windowOf_size_fits {sw sh wo ho z : Nat} (hz : 100 ≤ z) (h : 2 * z ≤ baseWidth sw sh wo ho * 100)
    (qx qy : Nat) :
    let w := windowOf sw sh wo ho z qx qy
    w.w % 2 = 0 ∧ 2 ≤ w.w ∧ 1 ≤ w.h ∧ w.w ≤ sw ∧ w.h ≤ sh := by
  have hz0 : 0 < z := by omega
  obtain ⟨hwidth, hheight⟩ := windowOf_size hz0 h qx qy
  have hbase := evenWidth_le (base := baseWidth sw sh wo ho) hz
  have htwo := two_le_evenWidth hz0 h
  have hpos : 0 < baseWidth sw sh wo ho := by omega
  simp only [hwidth, hheight]
  exact ⟨evenWidth_even .., htwo, Nat.le_max_left .., Nat.le_trans hbase (Nat.min_le_left ..),
    Nat.max_le.2 ⟨height_pos_of_baseWidth_pos hpos, shapedHeight_le hbase⟩⟩

/-- R41: a window of even width that fits its source lies inside it, with the requested centre where the clamp
allows. -/
theorem windowOf_inside {sw sh wo ho z qx qy : Nat} :
    let w := windowOf sw sh wo ho z qx qy
    w.w % 2 = 0 → w.w ≤ sw → w.h ≤ sh →
      w.x0 + w.w ≤ sw ∧ w.y0 + w.h ≤ sh ∧ w.cx = w.x0 + w.w / 2 ∧ w.cy = w.y0 + w.h / 2 ∧
      (w.w / 2 ≤ qx → qx ≤ sw - w.w / 2 → w.cx = qx) ∧
      (w.h / 2 ≤ qy → qy ≤ sh - w.h + w.h / 2 → w.cy = qy) := by
  simp only [windowOf]
  intro heven hw hh
  rw [upper_clamp_even heven hw]
  obtain ⟨hx, hcx, hqx⟩ := clamped_inside hw qx
  obtain ⟨hy, hcy, hqy⟩ := clamped_inside hh qy
  exact ⟨hx, hy, hcx, hcy, hqx, hqy⟩

/-- R40: a larger zoom gives no wider and no taller window. -/
theorem windowOf_antitone {sw sh wo ho z z' : Nat} (hz : 0 < z) (hle : z ≤ z')
    (h : 2 * z ≤ baseWidth sw sh wo ho * 100) (h' : 2 * z' ≤ baseWidth sw sh wo ho * 100) (qx qy px py : Nat) :
    (windowOf sw sh wo ho z' px py).w ≤ (windowOf sw sh wo ho z qx qy).w ∧
      (windowOf sw sh wo ho z' px py).h ≤ (windowOf sw sh wo ho z qx qy).h := by
  obtain ⟨hwidth, hheight⟩ := windowOf_size hz h qx qy
  obtain ⟨hwidth', hheight'⟩ := windowOf_size (Nat.lt_of_lt_of_le hz hle) h' px py
  have hnarrower := evenWidth_antitone (baseWidth sw sh wo ho) hz hle
  have hlower : evenWidth (baseWidth sw sh wo ho) z' * ho / wo ≤ evenWidth (baseWidth sw sh wo ho) z * ho / wo :=
    Nat.div_le_div_right (Nat.mul_le_mul_right ho hnarrower)
  rw [hwidth, hheight, hwidth', hheight']
  exact ⟨hnarrower, Nat.max_le.2 ⟨Nat.le_max_left .., Nat.le_trans hlower (Nat.le_max_right ..)⟩⟩

/-- R40, R43: of a target the window takes the shape alone. -/
theorem windowOf_scale (sw sh wo ho z qx qy : Nat) {c : Nat} (hc : 0 < c) :
    windowOf sw sh (c * wo) (c * ho) z qx qy = windowOf sw sh wo ho z qx qy := by
  have hbase : sh * (c * wo) / (c * ho) = sh * wo / ho := by
    rw [Nat.mul_left_comm, Nat.mul_div_mul_left _ _ hc]
  have hheight (w : Nat) : w * (c * ho) / (c * wo) = w * ho / wo := by
    rw [Nat.mul_left_comm, Nat.mul_div_mul_left _ _ hc]
  simp only [windowOf, windowSize, hbase, hheight]

/-! ## The glide -/

/-- R46: a glide step changes the current zoom alone. -/
theorem glideRecord_rest (rate : Nat) (v : ViewRecord) :
    (glideRecord rate v).zt = v.zt ∧ (glideRecord rate v).qx = v.qx ∧ (glideRecord rate v).qy = v.qy := by
  unfold glideRecord
  split
  · exact ⟨rfl, rfl, rfl⟩
  · split <;> exact ⟨rfl, rfl, rfl⟩

/-- R46: at rate 0 a glide step reaches the target. -/
theorem glideRecord_zero (v : ViewRecord) : (glideRecord 0 v).zc = v.zt := rfl

/-- R46: at a positive rate a glide step moves by the rate, and no farther than the target. -/
theorem glideRecord_zc {rate : Nat} (hr : 0 < rate) (v : ViewRecord) :
    (glideRecord rate v).zc = if v.zc ≤ v.zt then min v.zt (v.zc + rate) else max v.zt (v.zc - rate) := by
  rw [glideRecord, if_neg (Nat.ne_of_gt hr)]
  split <;> rfl

/-- R46: from either side, glide steps at a positive rate bring the current zoom nearer to the target by the rate
each. -/
theorem repeat_glideRecord_gap {rate : Nat} (hr : 0 < rate) (v : ViewRecord) (j : Nat) :
    (Nat.repeat (glideRecord rate) j v).zt = v.zt ∧
      v.zt - (Nat.repeat (glideRecord rate) j v).zc = v.zt - v.zc - j * rate ∧
      (Nat.repeat (glideRecord rate) j v).zc - v.zt = v.zc - v.zt - j * rate := by
  induction j with
  | zero => simp [Nat.repeat]
  | succ j ih =>
    obtain ⟨htarget, hbelow, habove⟩ := ih
    rw [Nat.repeat, (glideRecord_rest rate _).1, glideRecord_zc hr, htarget, Nat.succ_mul]
    refine ⟨rfl, ?_⟩
    split <;> omega

/-- R46, R50: glide steps whose rates add up to the distance reach the target. -/
theorem repeat_glideRecord_reaches {rate : Nat} (hr : 0 < rate) {v : ViewRecord} {j : Nat}
    (hbelow : v.zt - v.zc ≤ j) (habove : v.zc - v.zt ≤ j) : (Nat.repeat (glideRecord rate) j v).zc = v.zt := by
  obtain ⟨-, hfrombelow, hfromabove⟩ := repeat_glideRecord_gap hr v j
  have hj : j ≤ j * rate := Nat.le_mul_of_pos_right j hr
  omega

/-- Settles O11: windows by `windowOf_size_fits`, `windowOf_inside` and `windowOf_antitone`; targets of one shape by
`windowOf_scale`, from 16:9 and 8:9; the glide by its distance to the target. -/
theorem windowInsideSourceAndGlideReachesTarget : Obligations.WindowInsideSourceAndGlideReachesTarget := by
  refine ⟨⟨fun sw sh wo ho z qx qy _ _ hz h => ?window, fun k z qx qy => ?shape⟩, fun rate v => ?glide⟩
  case window =>
    obtain ⟨heven, htwo, hone, hw, hh⟩ := windowOf_size_fits hz h qx qy
    obtain ⟨hx, hy, hcx, hcy, hqx, hqy⟩ := windowOf_inside heven hw hh
    exact ⟨heven, htwo, hone, hx, hy, hcx, hcy, hqx, hqy, fun z' px py hle h' =>
      windowOf_antitone (by omega) hle h h' qx qy px py⟩
  case shape =>
    have hfull {c : Nat} := windowOf_scale k.width k.height 16 9 z qx qy (c := c)
    have hhalf {c : Nat} := windowOf_scale k.width k.height 8 9 z qx qy (c := c)
    have hfull1080 := hfull (c := 120) (by decide)
    have hhalf1080 := hhalf (c := 120) (by decide)
    exact ⟨(hfull (c := 80) (by decide)).trans hfull1080.symm, (hfull (c := 240) (by decide)).trans hfull1080.symm,
      (hhalf (c := 80) (by decide)).trans hhalf1080.symm, (hhalf (c := 240) (by decide)).trans hhalf1080.symm⟩
  case glide =>
    obtain ⟨hzt, hqx, hqy⟩ := glideRecord_rest rate v
    refine ⟨hzt, hqx, hqy, ?atOnce, fun hr => ?moves, fun hr _ _ _ _ =>
      ⟨1500, Nat.le_refl _, fun j hj => ?reaches⟩⟩
    case atOnce =>
      rintro rfl
      exact glideRecord_zero v
    case moves =>
      rw [glideRecord_zc hr]
      split <;> omega
    case reaches => exact repeat_glideRecord_reaches hr (by omega) (by omega)

end Sys2Proof.Machine
end

section
/-! SUPPORT. The view requests (R48 to R51): what the active view is, and each request at a port that takes it. -/

namespace Sys2Proof.Machine

/-! ## The active view -/

/-- R39: outside display mode PAGE the active view is LIVE. -/
theorem pageActive_false {s : State} (h : s.disp.mode ≠ .page) : pageActive s = false := decide_eq_false h

/-- R39: in display mode PAGE the active view is PAGE. -/
theorem pageActive_true {s : State} (h : s.disp.mode = .page) : pageActive s = true := decide_eq_true h

/-- R39: a change of the active view record leaves which view is active. -/
@[simp] theorem pageActive_setActiveView (v : ViewRecord) (s : State) :
    pageActive (setActiveView v s) = pageActive s := by
  unfold setActiveView
  split <;> rfl

/-- R39: a notice to the other ports leaves which view is active. -/
@[simp] theorem pageActive_postOthers (p : PortId) (n : Notice) (s : State) :
    pageActive (postOthers p n s) = pageActive s := by
  simp [pageActive]

/-- R48, R51: the record field of an answer that follows a change of the active view and its notice. -/
theorem recordField_told (p : PortId) (n : Notice) (v : ViewRecord) (s : State) :
    recordField (postOthers p n (setActiveView v s)) = recordField s := by
  simp [recordField]

/-- R48, R51: the record field names PAGE in display mode PAGE. -/
theorem recordField_eq (s : State) : recordField s = u8 (if s.disp.mode = .page then 1 else 0) := by
  simp [recordField, pageActive]

/-- R39: LIVE as the active view has the sensor's geometry. -/
theorem active_live {s : State} (h : s.disp.mode ≠ .page) : activeKind s = .sensor ∧ activeView s = s.vwc.live := by
  simp [activeKind, activeView, pageActive_false h]

/-- R39: PAGE as the active view has the geometry of its page. -/
theorem active_page {s : State} {m : PageMode} (h : s.disp.mode = .page) (hm : s.vwc.geom = some m) :
    activeKind s = m.kind ∧ activeView s = s.vwc.page := by
  simp [activeKind, activeView, pageActive_true h, pageGeometry, hm]

/-! ## The requests at a port that takes them -/

/-- R48, R187: SET_VIEW at a port that takes requests. -/
theorem exec_setView_serves {p : PortId} {s : State} (h : Serves p s) (zoom qx qy : Half) :
    exec (.setView p zoom qx qy) s = .next (takeSetView p zoom qx qy (requestTaken p s)) := by
  simp only [exec, execSetView]
  exact submit_serves h _ _ (by simp [halfBytes])

/-- R49, R187: NUDGE_VIEW at a port that takes requests. -/
theorem exec_nudgeView_serves {p : PortId} {s : State} (h : Serves p s) (zoomDelta dx dy : Half) :
    exec (.nudgeView p zoomDelta dx dy) s = .next (takeNudgeView p zoomDelta dx dy (requestTaken p s)) := by
  simp only [exec, execNudgeView]
  exact submit_serves h _ _ (by simp [halfBytes])

/-- R50, R187: SET_GLIDE at a port that takes requests. -/
theorem exec_setGlide_serves {p : PortId} {s : State} (h : Serves p s) (rate : Half) :
    exec (.setGlide p rate) s = .next (takeSetGlide p rate (requestTaken p s)) := by
  simp only [exec, execSetGlide]
  exact submit_serves h _ _ (by simp [halfBytes])

/-- R51, R187: GET_VIEW at a port that takes requests. -/
theorem exec_getView_serves {p : PortId} {s : State} (h : Serves p s) :
    exec (.getView p) s = .next (takeGetView p (requestTaken p s)) := by
  simp only [exec, execGetView]
  exact submit_serves h _ _ (by simp)

/-! ## What they do -/

/-- R54: VIEW_CHANGED goes to the ports other than the one whose request changed the view. -/
def tellView (p : PortId) (s : State) : State := postOthers p (viewNotice (portCause p) s) s

/-- R48: a view record with the values of a SET_VIEW, clamped for a source kind. -/
def viewSet (k : SlotKind) (zoom qx qy : Half) (v : ViewRecord) : ViewRecord :=
  { v with
    zt := max 100 (min 1600 zoom.toNat)
    qx := min (k.width - 1) qx.toNat
    qy := min (k.height - 1) qy.toNat }

/-- R48, R49: the active view becomes a record, the others are told, and the answer names the view, the values taken
and what else it carries. -/
def viewTaken (p : PortId) (code : Byte) (v : ViewRecord) (more : List Byte) (s : State) : State :=
  answer p .ok code (recordField s ++ u16 v.zt ++ u16 v.qx ++ u16 v.qy ++ more) (tellView p (setActiveView v s))

/-- R39: what is taken into LIVE as the active view. -/
theorem viewTaken_live {s : State} (h : s.disp.mode ≠ .page) (p : PortId) (code : Byte) (v : ViewRecord)
    (more : List Byte) :
    viewTaken p code v more s = answer p .ok code (u8 0 ++ u16 v.zt ++ u16 v.qx ++ u16 v.qy ++ more)
      (tellView p { s with vwc := { s.vwc with live := v } }) := by
  simp [viewTaken, recordField, setActiveView, pageActive_false h]

/-- R39: what is taken into PAGE as the active view. -/
theorem viewTaken_page {s : State} (h : s.disp.mode = .page) (p : PortId) (code : Byte) (v : ViewRecord)
    (more : List Byte) :
    viewTaken p code v more s = answer p .ok code (u8 1 ++ u16 v.zt ++ u16 v.qx ++ u16 v.qy ++ more)
      (tellView p { s with vwc := { s.vwc with page := v } }) := by
  simp [viewTaken, recordField, setActiveView, pageActive_true h]

/-- R48: SET_VIEW takes the values clamped into the active view. -/
theorem takeSetView_eq (p : PortId) (zoom qx qy : Half) (s : State) :
    takeSetView p zoom qx qy s = viewTaken p 0x10 (viewSet (activeKind s) zoom qx qy (activeView s)) [] s := by
  simp only [takeSetView, viewTaken, viewSet, tellView, recordField_told, clamp, Nat.zero_max, List.append_nil]

/-- R49: the pan of a nudge in the window of a view, in source pixels. -/
def nudgePan (t : Nat × Nat) (w : Window) (dx dy : Half) : Int × Int :=
  ((max (-3840) (min 3840 dx.toInt) * (w.w : Int)).tdiv t.1, (max (-2160) (min 2160 dy.toInt) * (w.h : Int)).tdiv t.2)

/-- R49: a view record nudged in its window on a source kind. -/
def viewNudged (t : Nat × Nat) (k : SlotKind) (zoomDelta dx dy : Half) (v : ViewRecord) : ViewRecord :=
  let w := viewWindow k t v
  { v with
    zt := (max 100 (min 1600 ((v.zt : Int) + max (-1500) (min 1500 zoomDelta.toInt)))).toNat
    qx := (max 0 (min ((k.width : Int) - 1) ((w.cx : Int) + (nudgePan t w dx dy).1))).toNat
    qy := (max 0 (min ((k.height : Int) - 1) ((w.cy : Int) + (nudgePan t w dx dy).2))).toNat }

/-- R49: NUDGE_VIEW nudges the active view and answers with the pan too. -/
theorem takeNudgeView_eq (p : PortId) (zoomDelta dx dy : Half) (s : State) :
    takeNudgeView p zoomDelta dx dy s =
      let t := projectorTarget s
      let pan := nudgePan t (viewWindow (activeKind s) t (activeView s)) dx dy
      viewTaken p 0x11 (viewNudged t (activeKind s) zoomDelta dx dy (activeView s)) (s16 pan.1 ++ s16 pan.2) s := by
  simp only [takeNudgeView, viewTaken, viewNudged, nudgePan, tellView, recordField_told, clampInt, panPixels,
    List.append_assoc]

/-- R50: SET_GLIDE sets the rate, tells the others and answers with it. -/
theorem takeSetGlide_eq (p : PortId) (rate : Half) (s : State) :
    takeSetGlide p rate s = answer p .ok 0x12 (u8 (min 200 rate.toNat))
      (tellView p { s with vwc := { s.vwc with glide := min 200 rate.toNat } }) := by
  simp only [takeSetGlide, tellView, postOthers_vwc, clamp, Nat.zero_max]

/-- Settles O12: each request at a port that takes it, SET_VIEW and NUDGE_VIEW by the view that is active. -/
theorem viewRequestsTakeClampedValues : Obligations.ViewRequestsTakeClampedValues := by
  refine ⟨⟨fun p zoom qx qy rate s hs => ⟨fun hmode => ?setLive, fun m hmode hgeom => ?setPage, ?setGlide⟩,
    fun p zoomDelta dx dy s hs => ⟨fun hmode => ?nudgeLive, fun m hmode hgeom => ?nudgePage⟩⟩,
    fun p s hs => ?getView⟩
  case setLive =>
    obtain ⟨hkind, hview⟩ := active_live hmode
    rw [exec_setView_serves hs, takeSetView_eq, hkind, hview, viewTaken_live hmode, List.append_nil]
    rfl
  case setPage =>
    obtain ⟨hkind, hview⟩ := active_page hmode hgeom
    rw [exec_setView_serves hs, takeSetView_eq, hkind, hview, viewTaken_page hmode, List.append_nil]
    rfl
  case setGlide =>
    rw [exec_setGlide_serves hs, takeSetGlide_eq]
    rfl
  case nudgeLive =>
    obtain ⟨hkind, hview⟩ := active_live hmode
    intro w x
    rw [exec_nudgeView_serves hs, takeNudgeView_eq, hkind, hview]
    dsimp only
    rw [viewTaken_live hmode, ← List.append_assoc]
    rfl
  case nudgePage =>
    obtain ⟨hkind, hview⟩ := active_page hmode hgeom
    intro w x
    rw [exec_nudgeView_serves hs, takeNudgeView_eq, hkind, hview]
    dsimp only
    rw [viewTaken_page hmode, ← List.append_assoc]
    rfl
  case getView =>
    rw [exec_getView_serves hs]
    generalize requestTaken p s = r
    rw [takeGetView, recordField_eq, pageWindow, pageGeometry]
    dsimp only
    cases r.vwc.geom with
    | none => rfl
    | some m => rfl

end Sys2Proof.Machine
end

section
/-! SUPPORT. The frame starts of the two pipes (R80): what they take before they latch (R46, R73), and which context and
scan set the display-control record then gives them (R81, R83). -/

namespace Sys2Proof.Machine

/-! ## What a frame start takes before it latches -/

/-- State a holds what state s holds of all that a context is latched from (R81), but for the view records and the
active tone bank. -/
structure LatchesAs (s a : State) : Prop where
  fst : a.fst = s.fst
  disp : a.disp = s.disp
  liu : a.liu = s.liu
  enh : a.ren.enh = s.ren.enh

/-- R73: a tone swap changes the active bank alone of what a frame start reads. -/
theorem toneSwap_latchesAs {s g : State} (h : LatchesAs s g) : LatchesAs s (toneSwap g) := by
  unfold toneSwap
  split
  · exact ⟨h.fst, h.disp, h.liu, h.enh⟩
  · exact h

/-- R73: a tone swap leaves the pipes and their counter. -/
theorem toneSwap_pipes (s : State) :
    (toneSwap s).opp = s.opp ∧ (toneSwap s).opt = s.opt ∧ (toneSwap s).skipped = s.skipped := by
  unfold toneSwap
  split <;> exact ⟨rfl, rfl, rfl⟩

/-- R47, R73: what a tap frame start takes first, a glide step and a tone swap, changes no more of it. -/
theorem tapSteps_latchesAs {s g : State} (h : LatchesAs s g) : LatchesAs s (tapSteps g) := by
  unfold tapSteps
  split
  · exact h
  · exact toneSwap_latchesAs ⟨h.fst, h.disp, h.liu, h.enh⟩

/-- R47, R73: what a tap frame start takes first leaves the tap's pipe and counter. -/
theorem tapSteps_pipe (s : State) : (tapSteps s).opt = s.opt ∧ (tapSteps s).skipped = s.skipped := by
  unfold tapSteps
  split
  · exact ⟨rfl, rfl⟩
  · exact (toneSwap_pipes (glideStep s)).2

/-! ## The view values a pipe latches -/

/-- R45: the view values of a window on a source kind. -/
def latchedView (t : Nat × Nat) (k : SlotKind) (zc qx qy : Nat) : ViewLatch :=
  { zc := zc, qx := qx, qy := qy, kind := k, window := windowOf k.width k.height t.1 t.2 zc qx qy }

/-- R42: a SENSOR slot is shown in the LIVE view. -/
theorem latchView_sensor {a : State} {n : Nat} (h : (a.slot n).kind = some .sensor) (t : Nat × Nat) :
    latchView a t n = latchedView t .sensor a.vwc.live.zc a.vwc.live.qx a.vwc.live.qy := by
  rw [latchView, slotKindOf, h]
  rfl

/-- R42: a page slot is shown in the PAGE view. -/
theorem latchView_page {a : State} {n : Nat} {m : PageMode} (h : (a.slot n).kind = some m.kind) (t : Nat × Nat) :
    latchView a t n = latchedView t m.kind a.vwc.page.zc a.vwc.page.qx a.vwc.page.qy := by
  rw [latchView, slotKindOf, h]
  cases m <;> rfl

/-- R44: a split reference is shown at zoom 100, centred. -/
theorem latchReference_eq {a : State} {n : Nat} {k : SlotKind} (h : (a.slot n).kind = some k) (t : Nat × Nat) :
    latchReference a t n = latchedView t k 100 (k.width / 2) (k.height / 2) := by
  rw [latchReference, slotKindOf, h]
  rfl

/-! ## The context a pipe latches -/

/-- R81: the context of a frame with one source in state s, whose view values and tone bank a holds. -/
def singleContext (s a : State) (mode : DisplayMode) (n : Nat) (v : ViewLatch) : Context :=
  { kind := .normal, mode := some mode, live := some n, liveView := some v, enh := some s.ren.enh,
    tone := some a.ren.active }

/-- R81, R83: the context of a split frame, whose live half is black where there is no live source. -/
def splitContext (s a : State) (t : Nat × Nat) (ref : SplitRef) (live : Option Nat) (n : Nat) (k : SlotKind) :
    Context :=
  { kind := .normal, mode := some .split, ref := some ref, live := live, reference := some n,
    liveView := live.map fun _ => latchedView (halfTarget t) .sensor a.vwc.live.zc a.vwc.live.qx a.vwc.live.qy,
    refView := some (latchedView (halfTarget t) k 100 (k.width / 2) (k.height / 2)), enh := some s.ren.enh,
    tone := some a.ren.active, blackLive := live.isNone }

/-- R81, R83: what the display-control record of state s has a frame show in ACTIVE, as a context and a scan set. -/
def ShowsByMode (s a : State) (t : Nat × Nat) (shows : Context → List Nat → Prop) : Prop :=
  let live := latchedView t .sensor a.vwc.live.zc a.vwc.live.qx a.vwc.live.qy
  let page (m : PageMode) := latchedView t m.kind a.vwc.page.zc a.vwc.page.qx a.vwc.page.qy
  (s.disp.mode = .live → newestReady s = none → shows blackContext []) ∧
  (∀ n, s.disp.mode = .live → newestReady s = some n → shows (singleContext s a .live n live) [n]) ∧
  (∀ n, s.disp.mode = .frozen → holderSlot s .freeze = some n → (s.slot n).kind = some .sensor →
    shows (singleContext s a .frozen n live) [n]) ∧
  (∀ n (m : PageMode), s.disp.mode = .page → holderSlot s .page = some n → (s.slot n).kind = some m.kind →
    shows (singleContext s a .page n (page m)) [n]) ∧
  ∀ ref n k, s.disp.mode = .split → s.disp.ref = some ref → holderSlot s ref.holder = some n →
    (s.slot n).kind = some k →
    (newestReady s = none → shows (splitContext s a t ref none n k) [n]) ∧
    ∀ l, newestReady s = some l → shows (splitContext s a t ref (some l) n k) [l, n]

section Latch

variable {s a : State} (ha : LatchesAs s a)
include ha

theorem LatchesAs.slot (n : Nat) : a.slot n = s.slot n := slot_congr ha.fst n

theorem LatchesAs.newestReady : newestReady a = newestReady s := newestReady_congr ha.fst

theorem LatchesAs.holderSlot (k : HolderKind) : holderSlot a k = holderSlot s k := holderSlot_congr ha.fst k

theorem LatchesAs.mode : a.disp.mode = s.disp.mode := congrArg Display.mode ha.disp

theorem LatchesAs.ref : a.disp.ref = s.disp.ref := congrArg Display.ref ha.disp

theorem LatchesAs.doze : a.liu.doze = s.liu.doze := congrArg LampIdle.doze ha.liu

theorem LatchesAs.singleSource (mode : DisplayMode) : singleSource a mode = singleSource s mode := by
  cases mode
  case frozen => exact ha.holderSlot .freeze
  case page => exact ha.holderSlot .page
  case live | split => exact ha.newestReady

/-- R80, R83: in DOZE the frame is black. -/
theorem frameContext_doze (t : Nat × Nat) (hd : s.liu.doze = true) : frameContext a t = blackContext :=
  if_pos (ha.doze.trans hd)

/-- R80: in ACTIVE the frame is what the display-control record gives. -/
theorem frameContext_active (t : Nat × Nat) (hd : s.liu.doze = false) : frameContext a t = latchContext a t :=
  if_neg (by rw [ha.doze, hd]; exact Bool.false_ne_true)

/-- R81: outside SPLIT the frame is that of the mode's one source, or black without one. -/
theorem frameContext_single (t : Nat × Nat) (hd : s.liu.doze = false) {mode : DisplayMode} (hm : s.disp.mode = mode)
    (hmode : mode ≠ .split) :
    frameContext a t =
      (Machine.singleSource s mode).elim blackContext fun n => singleContext s a mode n (latchView a t n) := by
  simp only [frameContext_active ha t hd, singleContext, ← ha.enh, ← ha.singleSource]
  obtain rfl : a.disp.mode = mode := ha.mode.trans hm
  unfold latchContext
  split
  case h_1 hsplit _ => exact absurd hsplit hmode
  case h_2 => cases Machine.singleSource a a.disp.mode <;> rfl

/-- R83: in LIVE with no READY SENSOR slot the frame is black. -/
theorem frameContext_live_none (t : Nat × Nat) (hd : s.liu.doze = false) (hm : s.disp.mode = .live)
    (hn : Machine.singleSource s .live = none) : frameContext a t = blackContext := by
  rw [frameContext_single ha t hd hm (by decide), hn, Option.elim_none]

/-- R42, R81: a SENSOR slot as the one source is shown in the LIVE view. -/
theorem frameContext_sensor (t : Nat × Nat) (hd : s.liu.doze = false) {mode : DisplayMode} (hm : s.disp.mode = mode)
    (hmode : mode ≠ .split) {n : Nat} (hn : Machine.singleSource s mode = some n)
    (hk : (s.slot n).kind = some .sensor) :
    frameContext a t =
      singleContext s a mode n (latchedView t .sensor a.vwc.live.zc a.vwc.live.qx a.vwc.live.qy) := by
  rw [frameContext_single ha t hd hm hmode, hn, Option.elim_some, latchView_sensor (by rw [ha.slot, hk])]

/-- R42, R81: a page slot as the one source is shown in the PAGE view. -/
theorem frameContext_page (t : Nat × Nat) (hd : s.liu.doze = false) (hm : s.disp.mode = .page) {n : Nat}
    {m : PageMode} (hn : Machine.singleSource s .page = some n) (hk : (s.slot n).kind = some m.kind) :
    frameContext a t =
      singleContext s a .page n (latchedView t m.kind a.vwc.page.zc a.vwc.page.qx a.vwc.page.qy) := by
  rw [frameContext_single ha t hd hm (by decide), hn, Option.elim_some, latchView_page (by rw [ha.slot, hk])]

/-- R44, R81: in SPLIT the frame has the newest READY slot beside the reference. -/
theorem frameContext_split (t : Nat × Nat) (hd : s.liu.doze = false) (hm : s.disp.mode = .split) {ref : SplitRef}
    (href : s.disp.ref = some ref) {n : Nat} {k : SlotKind} (hn : Machine.holderSlot s ref.holder = some n)
    (hk : (s.slot n).kind = some k) :
    frameContext a t = splitContext s a t ref (Machine.newestReady s) n k := by
  have hlive : (Machine.newestReady s).map (latchView a (halfTarget t)) = (Machine.newestReady s).map fun _ =>
      latchedView (halfTarget t) .sensor a.vwc.live.zc a.vwc.live.qx a.vwc.live.qy :=
    Option.map_congr fun l hl => latchView_sensor (by rw [ha.slot, (newestReady_some hl).2.2]) _
  have hreference := latchReference_eq (a := a) (by rw [ha.slot, hk]) (halfTarget t)
  rw [frameContext_active ha t hd, latchContext, ha.mode.trans hm, ha.ref.trans href]
  simp only [ha.newestReady, ha.holderSlot, hn, hlive, hreference, ha.enh, splitContext, Option.map_some,
    Option.isNone_some]

/-- R80, R81, R83: in ACTIVE a frame's context and scan set are those of the display-control record. -/
theorem showsByMode (t : Nat × Nat) (hd : s.liu.doze = false) {shows : Context → List Nat → Prop}
    (h : shows (frameContext a t) (scanSet (frameContext a t))) : ShowsByMode s a t shows := by
  have hshows {c : Context} (hc : frameContext a t = c) : shows c (scanSet c) := hc ▸ h
  refine ⟨fun hm hn => ?liveNone, fun n hm hn => ?live, fun n hm hn hk => ?frozen, fun n m hm hn hk => ?page,
    fun ref n k hm href hn hk => ?split⟩
  case liveNone => exact hshows (frameContext_live_none ha t hd hm hn)
  case live => exact hshows (frameContext_sensor ha t hd hm (by decide) hn (newestReady_some hn).2.2)
  case frozen => exact hshows (frameContext_sensor ha t hd hm (by decide) hn hk)
  case page => exact hshows (frameContext_page ha t hd hm hn hk)
  case split =>
    have hsplit := hshows (frameContext_split ha t hd hm href hn hk)
    exact ⟨fun hnone => by rwa [hnone] at hsplit, fun l hsome => by rwa [hsome] at hsplit⟩

end Latch

/-! ## The frame start of each pipe -/

/-- R80: with the projector-present input low the projector's context becomes NONE. -/
theorem exec_projectorFrameStart_absent {s : State} (h : s.inputs.projectorPresent = false) :
    exec .projectorFrameStart s =
      .next (changeScan .scanP [] { s with opp := { applyPending s.opp with ctx := {} } }) := by
  simp only [exec, execProjectorFrameStart, projectorFrame, h, if_neg Bool.false_ne_true]
  rfl

/-- R80: with it high the projector latches its frame after the glide step and the tone swap. -/
theorem exec_projectorFrameStart_present {s : State} (h : s.inputs.projectorPresent = true) :
    exec .projectorFrameStart s =
      let a := toneSwap (glideStep { s with opp := applyPending s.opp })
      .next (setProjectorFrame (frameContext a (applyPending s.opp).applied.target) a) := by
  simp only [exec, execProjectorFrameStart, projectorFrame, h, if_true, (toneSwap_pipes _).1]
  rfl

/-- Settles O18: with the input high, the state after the glide step and the tone swap latches as the one before. -/
theorem projectorFrameStartLatchesItsFrame : Obligations.ProjectorFrameStartLatchesItsFrame := by
  intro s q g a t shows latch live black normal
  refine ⟨exec_projectorFrameStart_absent, fun hpresent => ?_⟩
  have htone : toneSwap g = a := rfl
  have ha : LatchesAs s a := htone ▸ toneSwap_latchesAs ⟨rfl, rfl, rfl, rfl⟩
  have hframe : exec .projectorFrameStart s = .next (setProjectorFrame (frameContext a t) a) :=
    htone ▸ exec_projectorFrameStart_present hpresent
  clear_value a
  refine ⟨fun hd => ?doze, fun hd => showsByMode ha t hd hframe⟩
  case doze =>
    rw [frameContext_doze ha t hd] at hframe
    exact hframe

/-- R75, log 1: a stopped generator's frame start takes the tap-ready level alone. -/
theorem exec_tapFrameStart_stopped (ready : Bool) {s : State} (h : s.opt.applied = .off) (hp : s.opt.pending = none) :
    exec (.tapFrameStart ready) s = .next { s with inputs := { s.inputs with tapReady := ready } } := by
  simp [exec, execTapFrameStart, tapFrame, tapRuns, h, hp]

/-- R78: where the tap's mode becomes OFF its context becomes NONE. -/
theorem exec_tapFrameStart_off (ready : Bool) {s : State} (hp : s.opt.pending = some .off) :
    exec (.tapFrameStart ready) s = .next (changeScan .scanT [] { s with
      inputs := { s.inputs with tapReady := ready }, opt := { applied := .off, pending := none, ctx := {} } }) := by
  simp only [exec, execTapFrameStart, tapFrame, applyPending, tapRuns, hp, Option.isSome_some, Bool.or_true,
    Option.getD_some, if_true]
  rfl

/-- R75: a tap whose mode is or becomes another than OFF has its generator running. -/
theorem tapRuns_of_mode {q : Pipe TapMode} (h : q.pending.getD q.applied ≠ .off) : tapRuns q = true := by
  cases hp : q.pending with
  | none =>
    rw [hp, Option.getD_none] at h
    simp [tapRuns, h]
  | some m => simp [tapRuns, hp]

/-- R80, R95: in another mode than OFF the tap skips its frame or latches it, after what its frame start takes. -/
theorem exec_tapFrameStart_runs (ready : Bool) {s : State} {m : TapMode} (hm : m ≠ .off)
    (h : s.opt.pending.getD s.opt.applied = m) :
    exec (.tapFrameStart ready) s =
      let a := tapSteps { s with
        inputs := { s.inputs with tapReady := ready }, opt := { s.opt with applied := m, pending := none } }
      .next (if ready then setTapFrame (frameContext a m.target) a else skipFrame a) := by
  subst h
  have happlied : (applyPending s.opt).applied ≠ .off := hm
  simp only [exec, execTapFrameStart, tapFrame, tapRuns_of_mode hm, if_true, if_neg happlied, (tapSteps_pipe _).1]
  rfl

/-- Settles O19: the stopped tap and the one that becomes OFF, and else the state after what the frame start takes,
which latches as the one before. -/
theorem tapFrameStartSkipsOrLatches : Obligations.TapFrameStartSkipsOrLatches := by
  intro ready s s0
  refine ⟨exec_tapFrameStart_stopped ready, exec_tapFrameStart_off ready, fun m hoff hmode => ?_⟩
  intro g a shows latch live black normal
  have hsteps : tapSteps g = a := rfl
  have ha : LatchesAs s a := hsteps ▸ tapSteps_latchesAs ⟨rfl, rfl, rfl, rfl⟩
  have hskipped : a.skipped = s.skipped := hsteps ▸ (tapSteps_pipe g).2
  have hframe : exec (.tapFrameStart ready) s =
      .next (if ready then setTapFrame (frameContext a m.target) a else skipFrame a) :=
    hsteps ▸ exec_tapFrameStart_runs ready hoff hmode
  clear_value a
  refine ⟨?skipped, ?doze, ?active⟩
  case skipped =>
    rintro rfl
    rw [if_neg Bool.false_ne_true, skipFrame, hskipped] at hframe
    exact hframe
  case doze =>
    rintro rfl hd
    rw [if_pos rfl, frameContext_doze ha _ hd] at hframe
    exact hframe
  case active =>
    rintro rfl hd
    rw [if_pos rfl] at hframe
    exact showsByMode ha m.target hd (shows := (shows · · a)) hframe

end Sys2Proof.Machine
end

section
/-! SUPPORT. The luma of a render up to its final value: where an output pixel stands in the source (R57), the
weighted average there (R58), what a page bypasses (R60, R62, R63), and the sharpening of the flattened luma (R61,
R62). -/

namespace Sys2Proof.Machine

/-! ## Interpolation -/

/-- R57: a source position lies at or before the last sample. -/
theorem sourcePosition_le (i origin window target size : Nat) :
    sourcePosition i origin window target size ≤ 256 * (size - 1) := Nat.min_le_left ..

/-- R57: the whole part of a position at or before the last sample names a sample, and the fraction is 0 on the last. -/
theorem position_within {u size : Nat} (hsize : 0 < size) (h : u ≤ 256 * (size - 1)) :
    u / 256 < size ∧ (u / 256 = size - 1 → u % 256 = 0) := by
  omega

/-- R58: the weights of the upper and of the lower two samples sum to those of their rows. -/
theorem bilinearWeights_sum {fx fy : Nat} (hx : fx < 256) (hy : fy < 256) :
    (256 - fx) * (256 - fy) + fx * (256 - fy) + (256 - fx) * fy + fx * fy = 65536 := by
  have hcolumns (weight : Nat) : (256 - fx) * weight + fx * weight = 256 * weight := by
    rw [← Nat.add_mul, Nat.sub_add_cancel (Nat.le_of_lt hx)]
  have hupper := hcolumns (256 - fy)
  have hlower := hcolumns fy
  omega

/-- R58: a rounded average with weights that sum to 65,536 is at least what all four samples are. -/
theorem le_roundedAverage {w x y z a b c d m : Nat} (hsum : w + x + y + z = 65536) (ha : m ≤ a) (hb : m ≤ b)
    (hc : m ≤ c) (hd : m ≤ d) : m ≤ (w * a + x * b + y * c + z * d + 32768) / 65536 := by
  have hm : w * m + x * m + y * m + z * m = 65536 * m := by
    rw [← hsum, Nat.add_mul, Nat.add_mul, Nat.add_mul]
  have := Nat.mul_le_mul_left w ha
  have := Nat.mul_le_mul_left x hb
  have := Nat.mul_le_mul_left y hc
  have := Nat.mul_le_mul_left z hd
  omega

/-- R58: a rounded average with weights that sum to 65,536 is at most what all four samples are. -/
theorem roundedAverage_le {w x y z a b c d m : Nat} (hsum : w + x + y + z = 65536) (ha : a ≤ m) (hb : b ≤ m)
    (hc : c ≤ m) (hd : d ≤ m) : (w * a + x * b + y * c + z * d + 32768) / 65536 ≤ m := by
  have hm : w * m + x * m + y * m + z * m = 65536 * m := by
    rw [← hsum, Nat.add_mul, Nat.add_mul, Nat.add_mul]
  have := Nat.mul_le_mul_left w ha
  have := Nat.mul_le_mul_left x hb
  have := Nat.mul_le_mul_left y hc
  have := Nat.mul_le_mul_left z hd
  omega

/-- R58: the average is at least the least of its samples. -/
theorem le_bilinear {fx fy : Nat} (hx : fx < 256) (hy : fy < 256) (a b c d : Nat) :
    min (min a b) (min c d) ≤ bilinear fx fy a b c d :=
  le_roundedAverage (bilinearWeights_sum hx hy) (by omega) (by omega) (by omega) (by omega)

/-- R58: the average is at most what all its samples are. -/
theorem bilinear_le {fx fy a b c d m : Nat} (hx : fx < 256) (hy : fy < 256) (ha : a ≤ m) (hb : b ≤ m) (hc : c ≤ m)
    (hd : d ≤ m) : bilinear fx fy a b c d ≤ m :=
  roundedAverage_le (bilinearWeights_sum hx hy) ha hb hc hd

/-- R58: at fractions 0 the average is its first sample. -/
theorem bilinear_zero (a b c d : Nat) : bilinear 0 0 a b c d = a := by
  simp only [bilinear]
  omega

/-- R58: an interpolated luma is a byte's value, as its samples are. -/
theorem interpolatedLuma_le (r : RenderInput) (i j : Nat) : interpolatedLuma r i j ≤ 255 := by
  have hsample (x y : Nat) : sourceLuma r x y ≤ 255 := Nat.le_of_lt_succ (BitVec.isLt _)
  exact bilinear_le (Nat.mod_lt _ (by decide)) (Nat.mod_lt _ (by decide)) (hsample ..) (hsample ..) (hsample ..)
    (hsample ..)

/-! ## The steps a render leaves out -/

/-- R60: without flattening F is the interpolated luma. -/
theorem flatLuma_unflattened {r : RenderInput} (h : r.kind ≠ .sensor ∨ r.enh.flatten = false) (i j : Nat) :
    flatLuma r i j = interpolatedLuma r i j := by
  refine if_neg fun ⟨hkind, hflatten⟩ => ?_
  rcases h with h | h
  · exact h hkind
  · exact Bool.false_ne_true (h.symm.trans hflatten)

/-- R62: without sharpening the luma stays F. -/
theorem sharpLuma_unsharpened {r : RenderInput} (h : r.kind ≠ .sensor ∨ r.enh.sharpen = 0) (i j : Nat) :
    sharpLuma r i j = flatLuma r i j := by
  refine if_neg fun ⟨hkind, hsharpen⟩ => ?_
  rcases h with h | h
  · exact h hkind
  · exact Nat.ne_of_gt hsharpen h

/-- R60, R62, R63: a page's final luma is the interpolated luma. -/
theorem finalLuma_page {r : RenderInput} (h : r.kind ≠ .sensor) (i j : Nat) :
    finalLuma r i j = interpolatedLuma r i j := by
  rw [finalLuma, if_neg h, sharpLuma_unsharpened (.inl h), flatLuma_unflattened (.inl h)]

/-- R60, R62, R63: neither flattened nor sharpened, a SENSOR slot's final luma is the tone table's entry for the
interpolated luma. -/
theorem finalLuma_plain {r : RenderInput} (hkind : r.kind = .sensor) (hflatten : r.enh.flatten = false)
    (hsharpen : r.enh.sharpen = 0) (i j : Nat) :
    finalLuma r i j = (r.tone.getD (interpolatedLuma r i j) 0).toNat := by
  rw [finalLuma, if_pos hkind, sharpLuma_unsharpened (.inr hsharpen), flatLuma_unflattened (.inr hflatten)]

/-- R59: of a render's settings the final luma alone can depend. -/
theorem renderPixel_congr {r : RenderInput} {e : Enhance} {tone : List Byte} {paper : Nat → List Nat} {i j : Nat}
    (h : finalLuma { r with enh := e, tone := tone, paper := paper } i j = finalLuma r i j) :
    renderPixel { r with enh := e, tone := tone, paper := paper } i j = renderPixel r i j :=
  congrArg (fun y => Pixel.mk y (renderPixel r i j).cb (renderPixel r i j).cr) h

/-- Settles O13: positions by `position_within`, averages by their weights, renders by what each kind leaves out. -/
theorem interpolationAveragesAndPagesBypassTheRest : Obligations.InterpolationAveragesAndPagesBypassTheRest := by
  refine ⟨⟨fun i origin window target size hsize => ?position, fun fx fy a b c d hx hy ha hb hc hd => ?average⟩,
    fun r e tone paper i j => ⟨fun hpage => ?page, finalLuma_plain (i := i) (j := j)⟩⟩
  case position =>
    have hle := sourcePosition_le i origin window target size
    exact ⟨hle, position_within hsize hle⟩
  case average =>
    exact ⟨bilinearWeights_sum hx hy, le_bilinear hx hy a b c d,
      bilinear_le hx hy (by omega) (by omega) (by omega) (by omega), bilinear_zero a b c d,
      bilinear_le hx hy ha hb hc hd⟩
  case page =>
    have hluma : finalLuma { r with enh := e, tone := tone, paper := paper } i j = interpolatedLuma r i j :=
      finalLuma_page (r := { r with enh := e, tone := tone, paper := paper }) hpage i j
    exact ⟨renderPixel_congr (hluma.trans (finalLuma_page hpage i j).symm), finalLuma_page hpage i j⟩

/-! ## Sharpening -/

/-- R60: a flattened luma is a byte's value. -/
theorem flatLuma_le (r : RenderInput) (i j : Nat) : flatLuma r i j ≤ 255 := by
  unfold flatLuma
  split
  · exact Nat.min_le_left ..
  · exact interpolatedLuma_le r i j

/-- R61: the F value beside an output pixel, taken at the clamped column and row. -/
def neighbourLuma (r : RenderInput) (i j : Nat) (dx dy : Int) : Nat :=
  flatLuma r (max 0 (min ((r.wo : Int) - 1) ((i : Int) + dx))).toNat
    (max 0 (min ((r.ho : Int) - 1) ((j : Int) + dy))).toNat

/-- R61: the blur of an output pixel. -/
def neighbourBlur (r : RenderInput) (i j : Nat) : Nat :=
  let F := neighbourLuma r i j
  blur (F 0 0) (F 0 (-1)) (F 0 1) (F 1 0) (F (-1) 0) (F 1 (-1)) (F (-1) (-1)) (F 1 1) (F (-1) 1)

/-- R61: the columns, or rows, before, at and after the one of a pixel inside the raster. -/
theorem clampedIndex {i size : Nat} (h : i < size) :
    (max 0 (min ((size : Int) - 1) ((i : Int) + -1))).toNat = i - 1 ∧
      (max 0 (min ((size : Int) - 1) ((i : Int) + 0))).toNat = i ∧
      (max 0 (min ((size : Int) - 1) ((i : Int) + 1))).toNat = min (size - 1) (i + 1) := by
  omega

/-- R61: at distance 0 stands the pixel's own F. -/
theorem neighbourLuma_centre {r : RenderInput} {i j : Nat} (hi : i < r.wo) (hj : j < r.ho) :
    neighbourLuma r i j 0 0 = flatLuma r i j := by
  rw [neighbourLuma, (clampedIndex hi).2.1, (clampedIndex hj).2.1]

/-- R61, R62: the luma of a sharpened pixel, by its blur. -/
theorem sharpLuma_sharpened {r : RenderInput} {i j : Nat} (hi : i < r.wo) (hj : j < r.ho) (hkind : r.kind = .sensor)
    (hsharpen : 0 < r.enh.sharpen) :
    sharpLuma r i j = sharpened r.enh.sharpen r.enh.core (neighbourLuma r i j 0 0) (neighbourBlur r i j) := by
  obtain ⟨hwest, hcolumn, heast⟩ := clampedIndex hi
  obtain ⟨hnorth, hrow, hsouth⟩ := clampedIndex hj
  rw [sharpLuma, if_pos ⟨hkind, hsharpen⟩]
  simp only [neighbourBlur, neighbourLuma, hwest, hcolumn, heast, hnorth, hrow, hsouth]

/-- R61: how far a blur of byte values is from its centre value, of which it takes a quarter. -/
theorem blur_range {f n s e w ne nw se sw : Nat} (hf : f ≤ 255) (hn : n ≤ 255) (hs : s ≤ 255) (he : e ≤ 255)
    (hw : w ≤ 255) (hne : ne ≤ 255) (hnw : nw ≤ 255) (hse : se ≤ 255) (hsw : sw ≤ 255) :
    blur f n s e w ne nw se sw ≤ 255 ∧ ((f : Int) - blur f n s e w ne nw se sw).natAbs ≤ 191 := by
  unfold blur
  omega

/-- R61: the ranges of an output pixel's blur and detail. -/
theorem neighbourBlur_range (r : RenderInput) (i j : Nat) :
    neighbourBlur r i j ≤ 255 ∧ ((neighbourLuma r i j 0 0 : Int) - neighbourBlur r i j).natAbs ≤ 191 :=
  blur_range (flatLuma_le ..) (flatLuma_le ..) (flatLuma_le ..) (flatLuma_le ..) (flatLuma_le ..) (flatLuma_le ..)
    (flatLuma_le ..) (flatLuma_le ..) (flatLuma_le ..)

/-- R62: the cored detail by the two bounds of the core. -/
theorem cored_eq (k : Nat) (d : Int) :
    cored k d = if d ≤ k ∧ -(k : Int) ≤ d then 0 else if (k : Int) < d then d - k else d + k := by
  unfold cored
  omega

/-- R62: coring brings a detail nearer to 0. -/
theorem natAbs_cored_le (k : Nat) (d : Int) : (cored k d).natAbs ≤ d.natAbs := by
  unfold cored
  omega

/-- R62: the correction of a detail of at most 191, at a strength of at most 31. -/
theorem natAbs_correction_le {d : Int} {s : Nat} (hd : d.natAbs ≤ 191) (hs : s ≤ 31) (k : Nat) :
    ((cored k d * s).tdiv 8).natAbs ≤ 740 := by
  rw [Int.natAbs_tdiv, Int.natAbs_mul, Int.natAbs_natCast]
  calc (cored k d).natAbs * s / 8
      ≤ 191 * 31 / 8 := Nat.div_le_div_right (Nat.mul_le_mul (Nat.le_trans (natAbs_cored_le k d) hd) hs)
    _ = 740 := by decide

/-- R62: the sharpened luma as an integer. -/
theorem sharpened_eq (s k f b : Nat) :
    (sharpened s k f b : Int) = max 0 (min 255 ((f : Int) + (cored k ((f : Int) - b) * s).tdiv 8)) :=
  Int.toNat_of_nonneg (Int.le_max_left ..)

/-- Settles O14: the blur is `neighbourBlur`, the cored detail `cored`, and the bounds are those of their parts. -/
theorem sharpeningFollowsBlurAndCore : Obligations.SharpeningFollowsBlurAndCore := by
  intro r i j hi hj F B D k Dc
  have hblur : B = neighbourBlur r i j := rfl
  have hcored : Dc = cored r.enh.core D := (cored_eq r.enh.core D).symm
  obtain ⟨hB, hD⟩ : B ≤ 255 ∧ D.natAbs ≤ 191 := neighbourBlur_range r i j
  refine ⟨fun hkind hsharpen => ?sharp, fun hplain => ?plain, flatLuma_le r, hB, by omega, by omega,
    fun hs => ?correction⟩
  case sharp => rw [sharpLuma_sharpened hi hj hkind hsharpen, sharpened_eq, hcored]; rfl
  case plain => exact (sharpLuma_unsharpened hplain i j).trans (neighbourLuma_centre hi hj).symm
  case correction =>
    have := natAbs_correction_le hD hs r.enh.core
    rw [hcored]
    omega

end Sys2Proof.Machine
end

section
/-! SUPPORT. The bits of a TEXT image byte (R65), and the pixels a recall makes of them (R67). -/

namespace Sys2Proof.Machine

/-- Bits gathered one after the other, the first in the most significant place, stand in their places. -/
theorem testBit_foldl_bits (bit : Nat → Bool) (n k : Nat) (h : k < n) :
    Nat.testBit ((List.range n).foldl (fun acc b => 2 * acc + if bit b then 1 else 0) 0) (n - 1 - k) = bit k := by
  induction n with
  | zero => exact absurd h (Nat.not_lt_zero k)
  | succ n ih =>
    rw [List.range_succ, List.foldl_append, List.foldl_cons, List.foldl_nil]
    rcases Nat.lt_succ_iff_lt_or_eq.1 h with hk | rfl
    · have hplace : n + 1 - 1 - k = n - 1 - k + 1 := by omega
      rw [hplace, Nat.testBit_succ, ← ih hk]
      congr 1
      split <;> omega
    · rw [Nat.add_sub_cancel, Nat.sub_self, Nat.testBit_zero]
      split <;> simp [*]

/-- R65: whether a final luma is ink in a TEXT image. -/
def ink (r : RenderInput) (x y : Nat) : Bool := decide (finalLuma r x y < r.enh.threshold)

/-- R65: the bits of a TEXT image byte, the leftmost pixel's in the most significant place. -/
theorem getLsbD_textByte (r : RenderInput) (n : Nat) {b : Nat} (hb : b < 8) :
    (textByte r n).getLsbD (7 - b) = ink r (8 * (n % 480) + b) (n / 480) := by
  have hplace : 7 - b < 8 := by omega
  rw [textByte, BitVec.getLsbD_ofNat, decide_eq_true hplace, Bool.true_and,
    ← testBit_foldl_bits (fun b => ink r (8 * (n % 480) + b) (n / 480)) 8 b hb]
  simp only [ink, decide_eq_true_eq]

/-- R65: byte n of a TEXT image. -/
theorem getElem?_textImage (r : RenderInput) {n : Nat} (h : n < 1036800) : (textImage r)[n]? = some (textByte r n) := by
  simp [textImage, PageMode.imageBytes, h]

/-- Settles O15: each bit decoded is the ink of its pixel. -/
theorem textImageDecodesToThresholdedPage : Obligations.TextImageDecodesToThresholdedPage := by
  refine fun r n => ⟨?pixels, ?size, getElem?_textImage r⟩
  case pixels =>
    refine congrArg List.flatten (List.map_congr_left fun b hb => ?_)
    rw [getLsbD_textByte r n (List.mem_range.1 hb)]
    simp only [ink, decide_eq_true_eq]
  case size => simp [textImage, PageMode.imageBytes]

end Sys2Proof.Machine
end

section
/-! SUPPORT. The tone requests (R70 to R73): what stands in a bank after values are written into it, and each request
at a port that takes it. -/

namespace Sys2Proof.Machine

/-! ## Writing into a bank -/

/-- R71: the values that are not dropped, as many as are written. -/
theorem length_take_written (start : Nat) (values : List Byte) :
    (values.take (256 - start)).length = written start values := by
  rw [List.length_take, written, Nat.min_comm]

/-- R71: a write that starts inside a bank, or right behind it, keeps its length. -/
theorem length_writeBank {bank : List Byte} {start : Nat} (hbank : bank.length = 256) (hstart : start ≤ 256)
    (values : List Byte) : (writeBank bank start values).length = 256 := by
  have hfit : written start values ≤ 256 - start := Nat.min_le_right ..
  rw [writeBank, List.length_append, List.length_append, length_take_written, List.length_drop, List.length_take,
    hbank]
  omega

/-- R71: the entries of a bank after a write: from the start on the values, the others as before. -/
theorem getElem?_writeBank {bank : List Byte} {start : Nat} (hbank : bank.length = 256) (hstart : start ≤ 256)
    (values : List Byte) (i : Nat) :
    (writeBank bank start values)[i]? =
      if start ≤ i ∧ i < start + written start values then values[i - start]? else bank[i]? := by
  have hfit : written start values ≤ 256 - start := Nat.min_le_right ..
  have hbefore : (bank.take start).length = start := by rw [List.length_take, hbank, Nat.min_eq_left hstart]
  rw [writeBank, length_take_written]
  rcases Nat.lt_or_ge i start with hlow | hlow
  · rw [List.append_assoc, List.getElem?_append_left (hbefore.symm ▸ hlow), List.getElem?_take_of_lt hlow,
      if_neg (by omega)]
  · rcases Nat.lt_or_ge i (start + written start values) with hin | hout
    · rw [List.append_assoc, List.getElem?_append_right (hbefore.symm ▸ hlow), hbefore,
        List.getElem?_append_left (by rw [length_take_written]; omega), List.getElem?_take_of_lt (by omega),
        if_pos ⟨hlow, hin⟩]
    · have hfront : (bank.take start ++ values.take (256 - start)).length = start + written start values := by
        rw [List.length_append, hbefore, length_take_written]
      rw [List.getElem?_append_right (hfront.symm ▸ hout), hfront, List.getElem?_drop, Nat.add_sub_cancel' hout,
        if_neg (by omega)]

/-! ## What a request's taking leaves -/

/-- R119, R121: the idle timer and the wake leave the render settings. -/
theorem requestTaken_ren (p : PortId) (s : State) : (requestTaken p s).ren = s.ren := by
  obtain ⟨f, r, -, -, a, b, c, -, -, -, h⟩ := requestTaken_does p s
  rw [h]

/-- R119, R121: the idle timer and the wake leave the port's tone pointer. -/
theorem requestTaken_tone (p : PortId) (s : State) : ((requestTaken p s).port p).tone = (s.port p).tone := by
  obtain ⟨f, r, -, -, htells⟩ := requestTaken_does p s
  obtain ⟨⟨notices, lost, h⟩, -, -⟩ := htells.port p
  rw [h]
  cases p <;> rfl

/-! ## The requests at a port that takes them -/

/-- The two bytes of a two-byte integer, joined again. -/
theorem joinHalf_halfBytes (x : Half) : joinHalf (x.extractLsb' 8 8) (x.extractLsb' 0 8) = x :=
  BitVec.extractLsb'_append_extractLsb'_eq_extractLsb' (by decide) |>.trans (by simp)

/-- R187: the frame of a LOAD_TONE of 1 to 64 values is that request. -/
theorem decodeFrame_loadTone (p : PortId) (start : Half) {values : List Byte} (hone : 1 ≤ values.length)
    (hmax : values.length ≤ 64) : decodeFrame p ⟨0x1A, halfBytes start ++ values⟩ = .loadTone p start values := by
  obtain ⟨v, vs, rfl⟩ := List.exists_cons_of_length_pos hone
  have hrequest : decodeRequest? p 0x1A (halfBytes start ++ v :: vs) =
      some (.loadTone p (joinHalf (start.extractLsb' 8 8) (start.extractLsb' 0 8)) (v :: vs)) := if_pos hmax
  rw [decodeFrame, hrequest, joinHalf_halfBytes, Option.getD_some]

/-- R187: the frame of a LOAD_TONE_NEXT of 1 to 64 values is that request. -/
theorem decodeFrame_loadToneNext (p : PortId) {values : List Byte} (hone : 1 ≤ values.length)
    (hmax : values.length ≤ 64) : decodeFrame p ⟨0x1B, values⟩ = .loadToneNext p values := by
  obtain ⟨v, vs, rfl⟩ := List.exists_cons_of_length_pos hone
  have hrequest : decodeRequest? p 0x1B (v :: vs) = some (.loadToneNext p (v :: vs)) := if_pos hmax
  rw [decodeFrame, hrequest, Option.getD_some]

/-- R71, R187: LOAD_TONE at a port that takes requests. -/
theorem exec_loadTone_serves {p : PortId} {s : State} (h : Serves p s) (start : Half) {values : List Byte}
    (hone : 1 ≤ values.length) (hmax : values.length ≤ 64) :
    exec (.loadTone p start values) s = .next (takeLoadTone p start values (requestTaken p s)) := by
  simp only [exec, execLoadTone, decodeFrame_loadTone p start hone hmax]
  refine submit_serves h _ _ ?_
  simp only [halfBytes, List.length_append, List.length_cons, List.length_nil]
  omega

/-- R72, R187: LOAD_TONE_NEXT at a port that takes requests. -/
theorem exec_loadToneNext_serves {p : PortId} {s : State} (h : Serves p s) {values : List Byte}
    (hone : 1 ≤ values.length) (hmax : values.length ≤ 64) :
    exec (.loadToneNext p values) s = .next (takeLoadToneNext p values (requestTaken p s)) := by
  simp only [exec, execLoadToneNext, decodeFrame_loadToneNext p hone hmax]
  exact submit_serves h _ _ (Nat.le_trans hmax (by decide))

/-- R73, R187: COMMIT_TONE at a port that takes requests. -/
theorem exec_commitTone_serves {p : PortId} {s : State} (h : Serves p s) :
    exec (.commitTone p) s = .next (takeCommitTone p (requestTaken p s)) := by
  simp only [exec, execCommitTone]
  exact submit_serves h _ _ (by simp)

/-- R70, R187: GET_TONE at a port that takes requests. -/
theorem exec_getTone_serves {p : PortId} {s : State} (h : Serves p s) (bank : Byte) (start : Half) (count : Byte) :
    exec (.getTone p bank start count) s = .next (takeGetTone p bank start count (requestTaken p s)) := by
  simp only [exec, execGetTone]
  exact submit_serves h _ _ (by simp [halfBytes])

/-! ## What they do -/

/-- R70: of the bank bytes 0 is ACTIVE and 1 is STAGING. -/
theorem toneBank?_some {bank : Byte} (h : bank.toNat ≤ 1) : toneBank? bank = some (decide (bank = 0)) := by
  have hcases : bank = 0 ∨ bank = 1 := by bv_omega
  obtain rfl | rfl := hcases <;> rfl

/-- R70: any other bank byte names no bank. -/
theorem toneBank?_none {bank : Byte} (h : 1 < bank.toNat) : toneBank? bank = none := by
  unfold toneBank?
  split
  case h_1 | h_2 => omega
  case h_3 => rfl

/-- R70: GET_TONE of a bank from a start inside it. -/
theorem takeGetTone_ok (p : PortId) {bank : Byte} {start : Half} (hbank : bank.toNat ≤ 1) (hstart : start.toNat ≤ 255)
    (count : Byte) (s : State) :
    takeGetTone p bank start count s =
      let l := ((if bank = 0 then s.ren.active else s.ren.staging).drop start.toNat).take
        (max 1 (min 64 count.toNat))
      answer p .ok 0x1D (u8 bank.toNat ++ u8 start.toNat ++ u8 l.length ++ l) s := by
  rw [takeGetTone, toneBank?_some hbank]
  simp only [if_neg (Nat.not_lt.2 hstart), decide_eq_true_eq, clamp, entryList, List.flatMap_singleton',
    List.append_assoc]

/-- R70: GET_TONE of an unknown bank, or from a start behind the bank. -/
theorem takeGetTone_bad (p : PortId) {bank : Byte} {start : Half} (h : 1 < bank.toNat ∨ 255 < start.toNat)
    (count : Byte) (s : State) : takeGetTone p bank start count s = answer p .badParam 0x1D [] s := by
  rcases Nat.lt_or_ge 1 bank.toNat with hbank | hbank
  · rw [takeGetTone, toneBank?_none hbank]
  · rw [takeGetTone, toneBank?_some hbank]
    exact if_pos (h.resolve_left (Nat.not_lt.2 hbank))

/-- Settles O17: both loads by `length_writeBank` and `getElem?_writeBank`, LOAD_TONE_NEXT from the pointer that the
request's taking leaves. -/
theorem toneRequestsLoadCommitAndReport : Obligations.ToneRequestsLoadCommitAndReport := by
  intro p start count bank values s hs hstaging hone hmax r loaded
  have hbank : r.ren.staging.length = 256 := by rw [requestTaken_ren, hstaging]
  have hload (code : Byte) {first : Nat} (hfirst : first ≤ 256) :
      loaded code first (.next (loadStaging p code first values r)) :=
    ⟨writeBank r.ren.staging first values, length_writeBank hbank hfirst values,
      fun i _ => getElem?_writeBank hbank hfirst values i, rfl⟩
  rw [exec_loadTone_serves hs start hone hmax, exec_loadToneNext_serves hs hone hmax, exec_commitTone_serves hs,
    exec_getTone_serves hs]
  refine ⟨fun hstart => ?load, fun hstart => ?refused, fun hpointer => ?loadNext, rfl,
    fun hknown hstart => congrArg _ (takeGetTone_ok p hknown hstart count r),
    fun hbad => congrArg _ (takeGetTone_bad p hbad count r)⟩
  case load =>
    rw [takeLoadTone, if_neg (Nat.not_lt.2 hstart)]
    exact hload 0x1A (Nat.le_succ_of_le hstart)
  case refused => exact congrArg _ (if_pos hstart)
  case loadNext =>
    rw [takeLoadToneNext, requestTaken_tone]
    exact hload 0x1B hpointer

end Sys2Proof.Machine
end

section
/-! SUPPORT. The idle timer (R118, R120): when it runs and when it expires, what an advance of the minute count and
the entry into DOZE do, and with them the two commands of the timer. -/

namespace Sys2Proof.Machine

/-! ## The idle timer -/

/-- R118: the idle timer runs in ACTIVE with the hold clear. -/
theorem timerRuns_iff (l : LampIdle) : timerRuns l = true ↔ l.doze = false ∧ l.hold = false := by
  simp [timerRuns]

/-- R118: the advance that expires is one of a running timer, to a timeout that is not 0. -/
theorem expires_iff (l : LampIdle) :
    expires l = true ↔ (l.doze = false ∧ l.hold = false) ∧ l.timeout ≠ 0 ∧ l.minutes + 1 = l.timeout := by
  simp [expires, timerRuns_iff, and_assoc]

/-- R118: the minute interval of a timer that runs. -/
theorem minuteElapsed_runs {s : State} (h : timerRuns s.liu = true) :
    minuteElapsed s = if expires s.liu then enterDoze (advanceMinute s) else advanceMinute s := if_pos h

/-- R118: a timer that does not run expires neither. -/
theorem minuteElapsed_stopped {s : State} (h : ¬ timerRuns s.liu = true) : minuteElapsed s = s := if_neg h

/-! ## The entry into DOZE -/

/-- R107, R112: on the entry into DOZE, FOC goes to HELD from any state but HELD and FAULT, and tells it. -/
theorem focusHold_eq (s : State) :
    focusHold s =
      let g : Focus := { s.foc with state := .held, wanted := none }
      if s.foc.state = .held ∨ s.foc.state = .fault then s else postAll (focusNotice [0x12] g) { s with foc := g } := by
  unfold focusHold
  cases hstate : s.foc.state with
  | held => rfl
  | fault => rfl
  | search r => rfl
  | locked l => rfl
  | parked => rfl

/-- R107: FOC's part of the entry into DOZE leaves the pipes and the idle unit. -/
theorem focusHold_frame (s : State) :
    (focusHold s).opp = s.opp ∧ (focusHold s).opt = s.opt ∧ (focusHold s).liu = s.liu := by
  obtain ⟨f, ⟨a, b, c, -, -, -, h⟩, -⟩ := focusHold_does s
  rw [h]
  exact ⟨rfl, rfl, rfl⟩

/-- R84, R120, R124: the entry into DOZE holds FOC, then blacks out both pipes and tells all ports. -/
theorem enterDoze_eq (s : State) :
    enterDoze s =
      let h := focusHold { s with liu := { s.liu with doze := true } }
      postAll { kind := .idleState, contents := [1, 0x10] ++ u8 s.liu.timeout ++ [0] }
        { h with
          opp := { s.opp with ctx := blackOut s.opp.ctx }
          opt := { s.opt with ctx := blackOut s.opt.ctx } } := by
  obtain ⟨hopp, hopt, hliu⟩ := focusHold_frame { s with liu := { s.liu with doze := true } }
  simp only [enterDoze, idleNotice, blackOutPipes, hopp, hopt, hliu]
  rfl

/-- Settles O28: by whether the timer runs (`timerRuns_iff`) and expires (`expires_iff`), the entry into DOZE being
`enterDoze_eq` and `focusHold_eq` of the state the advance leaves. -/
theorem idleTimerCountsMinutesAndDozes : Obligations.IdleTimerCountsMinutesAndDozes := by
  intro s e a runs ends d g h dark b
  have hadvance : advanceMinute s = a := rfl
  have hdoze : enterDoze a = b := by
    rw [enterDoze_eq, focusHold_eq]
    rfl
  have hruns : timerRuns s.liu = true ↔ runs := timerRuns_iff s.liu
  have hexpires : expires s.liu = true ↔ runs ∧ ends := expires_iff s.liu
  simp only [exec, execMinuteIntervalElapsed, execIdleTimerExpiry, idleExpiry]
  refine ⟨fun hr => ?stopped, fun hr he => ?counts, fun hr he => ?expires⟩
  case stopped =>
    rw [minuteElapsed_stopped (mt hruns.1 hr), if_neg (mt hexpires.1 fun x => hr x.1)]
    exact ⟨rfl, rfl⟩
  case counts =>
    have hno : ¬ expires s.liu = true := mt hexpires.1 fun x => he x.2
    rw [minuteElapsed_runs (hruns.2 hr), if_neg hno, if_neg hno, hadvance]
    exact ⟨rfl, rfl⟩
  case expires =>
    have hyes : expires s.liu = true := hexpires.2 ⟨hr, he⟩
    rw [minuteElapsed_runs (hruns.2 hr), if_pos hyes, if_pos hyes, hadvance, hdoze]
    exact ⟨rfl, rfl⟩

end Sys2Proof.Machine
end

section
/-! SUPPORT. The projector-present input (R94) and the output requests (R77, R96) at a port that takes them. -/

namespace Sys2Proof.Machine

/-! ## Output modes -/

/-- R77: the byte of a projector mode is read as that mode. -/
theorem projectorMode?_code {a : Byte} {m : ProjectorMode} (h : a.toNat = m.code) : projectorMode? a = some m := by
  rw [projectorMode?, h]
  cases m <;> rfl

/-- R77: no other byte is a projector mode. -/
theorem projectorMode?_none {a : Byte} (h : 2 < a.toNat) : projectorMode? a = none := by
  unfold projectorMode?
  split
  case h_1 | h_2 | h_3 => omega
  case h_4 => rfl

/-- R77: the byte of a tap mode is read as that mode. -/
theorem tapMode?_code {b : Byte} {n : TapMode} (h : b.toNat = n.code) : tapMode? b = some n := by
  rw [tapMode?, h]
  cases n <;> rfl

/-- R77: no other byte is a tap mode. -/
theorem tapMode?_none {b : Byte} (h : 2 < b.toNat) : tapMode? b = none := by
  unfold tapMode?
  split
  case h_1 | h_2 | h_3 => omega
  case h_4 => rfl

/-- R77: notices to other ports leave the four modes. -/
@[simp] theorem outputModes_postOthers (p : PortId) (n : Notice) (s : State) :
    outputModes (postOthers p n s) = outputModes s := by
  simp [outputModes]

/-! ## The requests at a port that takes them -/

/-- R77, R187: SET_OUTPUT at a port that takes requests. -/
theorem exec_setOutput_serves {p : PortId} {s : State} (h : Serves p s) (projector tap : Byte) :
    exec (.setOutput p projector tap) s = .next (takeSetOutput p projector tap (requestTaken p s)) := by
  simp only [exec, execSetOutput]
  exact submit_serves h _ _ (by simp)

/-- R96, R187: GET_OUTPUT at a port that takes requests. -/
theorem exec_getOutput_serves {p : PortId} {s : State} (h : Serves p s) :
    exec (.getOutput p) s = .next (takeGetOutput p (requestTaken p s)) := by
  simp only [exec, execGetOutput]
  exact submit_serves h _ _ (by simp)

/-- R77: SET_OUTPUT of two known modes. -/
theorem takeSetOutput_ok (p : PortId) {projector tap : Byte} {m : ProjectorMode} {n : TapMode}
    (hm : projector.toNat = m.code) (hn : tap.toNat = n.code) (s : State) :
    takeSetOutput p projector tap s =
      let t : State := { s with
        opp := { s.opp with pending := pendingFor s.opp.applied m }
        opt := { s.opt with pending := pendingFor s.opt.applied n } }
      answer p .ok 0x20 (outputModes t)
        (postOthers p { kind := .outputChanged, contents := outputModes t ++ u8 (portNumber p) } t) := by
  simp only [takeSetOutput, projectorMode?_code hm, tapMode?_code hn, outputModes_postOthers]

/-- R77: SET_OUTPUT with an unknown mode. -/
theorem takeSetOutput_bad (p : PortId) {projector tap : Byte} (h : 2 < projector.toNat ∨ 2 < tap.toNat) (s : State) :
    takeSetOutput p projector tap s = answer p .badParam 0x20 [] s := by
  unfold takeSetOutput
  split
  case h_1 hm hn =>
    rcases h with h | h
    · simp [projectorMode?_none h] at hm
    · simp [tapMode?_none h] at hn
  case h_2 => rfl

/-- Settles O21: the two edges act on any state, SET_OUTPUT on the state its taking leaves, and GET_OUTPUT on that
state with the tap-ready level sampled, which no other field of its answer reads. -/
theorem presenceAndOutputModeRequests : Obligations.PresenceAndOutputModeRequests := by
  refine ⟨fun s => ⟨rfl, rfl⟩, fun p a b s hs => ?_⟩
  intro r maybe modes
  refine ⟨fun m n hm hn => ?known, fun hbad => ?unknown, ?report⟩
  case known =>
    rw [exec_setOutput_serves hs, takeSetOutput_ok p hm hn]
    rfl
  case unknown => rw [exec_setOutput_serves hs, takeSetOutput_bad p hbad]
  case report =>
    rw [exec_getOutput_serves hs]
    rfl

end Sys2Proof.Machine
end

section
/-! SUPPORT. The search (R102 to R105) and staying locked (R106): what a wanted move and each test of a publish do to
the focus record, the fine list and its best position. -/

namespace Sys2Proof.Machine

/-! ## A wanted move (R100) -/

/-- R100, R103: on an idle link a wanted move starts at once. -/
theorem wantMove_idle {f : Focus} (hlink : f.link = none) (pos : Nat) :
    wantMove pos f = { f with
      owed := false, state := resetSettle f.state, link := some { pos := pos, attempt := 1, addr := f.addr } } := by
  simp only [wantMove, hlink]

/-- R100, R103: on a busy link a wanted move waits. -/
theorem wantMove_busy {f : Focus} {m : LensMove} (hlink : f.link = some m) (pos : Nat) :
    wantMove pos f = { f with owed := false, state := resetSettle f.state, wanted := some pos } := by
  simp only [wantMove, hlink]

/-- R100, R103: a move wanted on an idle link, with no reset move owed. -/
theorem wantMove_unowed {f : Focus} (hlink : f.link = none) (howed : f.owed = false) (pos : Nat) :
    wantMove pos f = { f with
      state := resetSettle f.state, link := some { pos := pos, attempt := 1, addr := f.addr } } := by
  rw [wantMove_idle hlink, ← howed]

/-- R103: a search's move on an idle link, with no reset move owed. -/
theorem wantMove_search {f : Focus} (hlink : f.link = none) (howed : f.owed = false) (pos : Nat) (r : Search) :
    wantMove pos { f with state := .search r } = { f with
      link := some { pos := pos, attempt := 1, addr := f.addr }, state := .search { r with settle := 0 } } :=
  wantMove_unowed (f := { f with state := .search r }) hlink howed pos

/-- R113: a wanted move pays the reset move that is owed. -/
theorem wantMove_owed (pos : Nat) (f : Focus) : (wantMove pos f).owed = false := by
  simp only [wantMove]
  split <;> rfl

/-- R100, R111: a wanted move leaves what a publish delivered last. -/
theorem wantMove_with_last (pos : Nat) (last : Option (Nat × Nat)) (f : Focus) :
    wantMove pos { f with last := last } = { wantMove pos f with last := last } := by
  simp only [wantMove]
  split <;> rfl

/-- R113: with no reset move owed a publish wants none. -/
theorem resetMove_of_not_owed {f : Focus} (h : f.owed = false) : resetMove f = f := by
  simp [resetMove, h]

/-- R113: in HELD a publish wants no reset move. -/
theorem resetMove_of_held {f : Focus} (h : f.state = .held) : resetMove f = f := by
  simp [resetMove, h]

/-- R113: a reset move owed outside HELD is wanted. -/
theorem resetMove_of_owed {f : Focus} (h : f.owed = true) (hheld : f.state ≠ .held) :
    resetMove f = wantMove f.lensPos f := if_pos ⟨h, hheld⟩

/-! ## What a publish does in each focus state -/

/-- The distance of two widths as a distance of integers. -/
theorem widthGap_eq_natAbs (a b : Nat) : widthGap a b = ((a : Int) - b).natAbs := by
  unfold widthGap
  omega

section Publish

variable (measure motion width wake : Nat) (still : Bool)

/-- R103: a publish during a search. -/
theorem focusOnPublish_search {f : Focus} {r : Search} (hstate : f.state = .search r) (howed : f.owed = false) :
    focusOnPublish measure motion width wake still f =
      searchPublish measure motion width still r { f with last := some (measure, motion) } := by
  rw [focusOnPublish, resetMove_of_not_owed (f := { f with last := some (measure, motion) }) howed]
  simp only [hstate]

/-- R106: a publish in LOCKED. -/
theorem focusOnPublish_locked {f : Focus} {l : Lock} (hstate : f.state = .locked l) (howed : f.owed = false) :
    focusOnPublish measure motion width wake still f =
      lockedPublish motion width wake still l { f with last := some (measure, motion) } := by
  rw [focusOnPublish, resetMove_of_not_owed (f := { f with last := some (measure, motion) }) howed]
  simp only [hstate]

/-- R101, R107: with no reset move to want, a publish in PARKED, HELD and FAULT records what it delivers. -/
theorem focusOnPublish_rests {f : Focus}
    (h : f.state = .held ∨ (f.owed = false ∧ (f.state = .parked ∨ f.state = .fault))) :
    focusOnPublish measure motion width wake still f = { f with last := some (measure, motion) } := by
  have hreset : resetMove { f with last := some (measure, motion) } = { f with last := some (measure, motion) } := by
    rcases h with hheld | ⟨howed, -⟩
    · exact resetMove_of_held hheld
    · exact resetMove_of_not_owed howed
  rw [focusOnPublish, hreset]
  rcases h with hstate | ⟨-, hstate | hstate⟩ <;> simp only [hstate]

end Publish

/-- R113: a publish with the reset move owed wants it, and then does what it does with none owed. -/
theorem focusOnPublish_owed {f : Focus} (howed : f.owed = true) (hheld : f.state ≠ .held)
    (measure motion width wake : Nat) (still : Bool) :
    focusOnPublish measure motion width wake still f =
      focusOnPublish measure motion width wake still (wantMove f.lensPos f) := by
  have hmoved : resetMove { f with last := some (measure, motion) } =
      { wantMove f.lensPos f with last := some (measure, motion) } :=
    (resetMove_of_owed (f := { f with last := some (measure, motion) }) howed hheld).trans
      (wantMove_with_last f.lensPos (some (measure, motion)) f)
  have hpaid : resetMove { wantMove f.lensPos f with last := some (measure, motion) } =
      { wantMove f.lensPos f with last := some (measure, motion) } :=
    resetMove_of_not_owed (wantMove_owed f.lensPos f)
  rw [focusOnPublish, focusOnPublish, hmoved, hpaid]

/-! ## The tests of R103, in order -/

/-- R103: while a move is under way or wanted, under motion, or during a glide, a search waits. -/
theorem searchPublish_waits {measure motion width : Nat} {still : Bool} {r : Search} {f : Focus}
    (h : (f.link.isSome ∨ f.wanted.isSome) ∨ f.threshold ≤ motion ∨ still = false) :
    searchPublish measure motion width still r f = f := by
  unfold searchPublish
  split
  · rfl
  · rename_i hmove
    rcases h.resolve_left hmove with hmotion | hglide
    · exact if_pos hmotion
    · rw [if_pos hglide, ite_self]

section Steady

/-! A publish at which nothing keeps the search waiting: the lens stands, the scene and the view are still. -/

variable {f : Focus} {motion : Nat} (hlink : f.link = none) (hwanted : f.wanted = none) (hstill : motion < f.threshold)
include hlink hwanted hstill

/-- R103: the tests after the first three. -/
theorem searchPublish_steady (measure width : Nat) (r : Search) :
    searchPublish measure motion width true r f =
      if r.width ≤ 4 * widthGap width r.width then startSearch width f
      else if r.settle < 2 then { f with state := .search { r with settle := r.settle + 1 } }
      else if r.phase = .coarse then coarseMeasure measure r f else fineMeasure measure width r f := by
  have hnomove : ¬ (f.link.isSome ∨ f.wanted.isSome) := by simp [hlink, hwanted]
  rw [searchPublish, if_neg hnomove, if_neg (Nat.not_le.2 hstill), if_neg (by decide)]
  cases r.phase <;> rfl

/-- R103: a window a quarter off starts the search again. -/
theorem searchPublish_restarts (measure : Nat) {width : Nat} {r : Search}
    (hwidth : r.width ≤ 4 * ((width : Int) - r.width).natAbs) :
    searchPublish measure motion width true r f = startSearch width f := by
  rw [searchPublish_steady hlink hwanted hstill, widthGap_eq_natAbs, if_pos hwidth]

/-- R103: the lens settles over two publishes. -/
theorem searchPublish_settles (measure : Nat) {width : Nat} {r : Search}
    (hwidth : 4 * ((width : Int) - r.width).natAbs < r.width) (hsettle : r.settle < 2) :
    searchPublish measure motion width true r f = { f with state := .search { r with settle := r.settle + 1 } } := by
  rw [searchPublish_steady hlink hwanted hstill, widthGap_eq_natAbs, if_neg (Nat.not_le.2 hwidth), if_pos hsettle]

/-- R103, R104: a valid measure in phase COARSE. -/
theorem searchPublish_coarse (measure : Nat) {width : Nat} {r : Search}
    (hwidth : 4 * ((width : Int) - r.width).natAbs < r.width) (hsettle : 2 ≤ r.settle) (hphase : r.phase = .coarse) :
    searchPublish measure motion width true r f = coarseMeasure measure r f := by
  rw [searchPublish_steady hlink hwanted hstill, widthGap_eq_natAbs, if_neg (Nat.not_le.2 hwidth),
    if_neg (Nat.not_lt.2 hsettle), if_pos hphase]

/-- R103, R105: a valid measure in phase FINE. -/
theorem searchPublish_fine (measure : Nat) {width : Nat} {r : Search}
    (hwidth : 4 * ((width : Int) - r.width).natAbs < r.width) (hsettle : 2 ≤ r.settle) (hphase : r.phase = .fine) :
    searchPublish measure motion width true r f = fineMeasure measure width r f := by
  have hfine : r.phase ≠ .coarse := by simp [hphase]
  rw [searchPublish_steady hlink hwanted hstill, widthGap_eq_natAbs, if_neg (Nat.not_le.2 hwidth),
    if_neg (Nat.not_lt.2 hsettle), if_neg hfine]

end Steady

/-! ## The fine list (R105) -/

/-- A position joins a list that does not hold it. -/
def joinNew (l : List Nat) (p : Nat) : List Nat := if l.contains p then l else l ++ [p]

/-- R105: the seven positions about the best one, clamped. -/
def fineCandidates (best : Nat) : List Nat :=
  [best - 24, best - 16, best - 8, best, best + 8, best + 16, best + 24].map (min 1023)

theorem finePositions_eq (best : Nat) : finePositions best = (fineCandidates best).foldl joinNew [] := rfl

theorem mem_joinNew {x p : Nat} {l : List Nat} : x ∈ joinNew l p ↔ x ∈ l ∨ x = p := by
  by_cases h : p ∈ l
  · rw [joinNew, if_pos (by simpa using h)]
    exact ⟨.inl, fun hx => hx.elim id (· ▸ h)⟩
  · rw [joinNew, if_neg (by simpa using h), List.mem_append, List.mem_singleton]

theorem length_joinNew_le (l : List Nat) (p : Nat) : (joinNew l p).length ≤ l.length + 1 := by
  unfold joinNew
  split <;> simp

/-- A position no smaller than any other joins at the end of a rising list. -/
theorem joinNew_pairwise {l : List Nat} {p : Nat} (hl : l.Pairwise (· < ·)) (hp : ∀ x ∈ l, x ≤ p) :
    (joinNew l p).Pairwise (· < ·) := by
  by_cases h : p ∈ l
  · rwa [joinNew, if_pos (by simpa using h)]
  · rw [joinNew, if_neg (by simpa using h), List.pairwise_append]
    refine ⟨hl, List.pairwise_singleton .., fun x hx y hy => ?_⟩
    obtain rfl := List.mem_singleton.1 hy
    exact Nat.lt_of_le_of_ne (hp x hx) fun heq => h (heq ▸ hx)

theorem mem_foldl_joinNew {x : Nat} (ps l : List Nat) : x ∈ ps.foldl joinNew l ↔ x ∈ l ∨ x ∈ ps := by
  induction ps generalizing l with
  | nil => simp
  | cons p ps ih => rw [List.foldl_cons, ih, mem_joinNew, or_assoc, List.mem_cons]

theorem length_foldl_joinNew_le (ps l : List Nat) : (ps.foldl joinNew l).length ≤ l.length + ps.length := by
  induction ps generalizing l with
  | nil => simp
  | cons p ps ih =>
    have hrest := ih (joinNew l p)
    have hone := length_joinNew_le l p
    rw [List.foldl_cons, List.length_cons]
    omega

/-- Positions that never fall leave a rising list. -/
theorem foldl_joinNew_pairwise {ps l : List Nat} (hl : l.Pairwise (· < ·)) (hps : ps.Pairwise (· ≤ ·))
    (hle : ∀ x ∈ l, ∀ p ∈ ps, x ≤ p) : (ps.foldl joinNew l).Pairwise (· < ·) := by
  induction ps generalizing l with
  | nil => exact hl
  | cons p ps ih =>
    obtain ⟨hp, hps⟩ := List.pairwise_cons.1 hps
    refine ih (joinNew_pairwise hl fun x hx => hle x hx p (by simp)) hps fun x hx q hq => ?_
    rcases mem_joinNew.1 hx with hx | rfl
    · exact hle x hx q (by simp [hq])
    · exact hp q hq

theorem fineCandidates_pairwise (best : Nat) : (fineCandidates best).Pairwise (· ≤ ·) := by
  simp [fineCandidates]
  omega

theorem mem_fineCandidates {best x : Nat} :
    x ∈ fineCandidates best ↔ ∃ k : Int, -3 ≤ k ∧ k ≤ 3 ∧ (x : Int) = max 0 (min 1023 ((best : Int) + 8 * k)) := by
  simp only [fineCandidates, List.map_cons, List.map_nil, List.mem_cons, List.not_mem_nil, or_false]
  constructor
  · rintro (h | h | h | h | h | h | h)
    · exact ⟨-3, by omega⟩
    · exact ⟨-2, by omega⟩
    · exact ⟨-1, by omega⟩
    · exact ⟨0, by omega⟩
    · exact ⟨1, by omega⟩
    · exact ⟨2, by omega⟩
    · exact ⟨3, by omega⟩
  · rintro ⟨k, hlow, hhigh, hx⟩
    omega

/-- R105: the fine list holds the clamped positions. -/
theorem mem_finePositions {best x : Nat} : x ∈ finePositions best ↔ x ∈ fineCandidates best := by
  rw [finePositions_eq, mem_foldl_joinNew]
  simp

/-- R105: the fine list rises. -/
theorem finePositions_pairwise (best : Nat) : (finePositions best).Pairwise (· < ·) :=
  foldl_joinNew_pairwise .nil (fineCandidates_pairwise best) (by simp)

/-- A list holds at least as many positions as any list of distinct ones of it. -/
theorem length_le_of_nodup_subset {l m : List Nat} (hnodup : l.Nodup) (hmem : l ⊆ m) : l.length ≤ m.length := by
  induction l generalizing m with
  | nil => exact Nat.zero_le _
  | cons a l ih =>
    obtain ⟨ha, hl⟩ := List.nodup_cons.1 hnodup
    have hin : a ∈ m := hmem List.mem_cons_self
    have hrest : l ⊆ m.erase a := fun x hx =>
      (List.mem_erase_of_ne fun heq : x = a => ha (heq ▸ hx)).2 (hmem (List.mem_cons_of_mem a hx))
    have hshort := ih hl hrest
    have hpos := List.length_pos_of_mem hin
    rw [List.length_erase_of_mem hin] at hshort
    rw [List.length_cons]
    omega

/-- R105: four of the seven positions about one in range stay apart: those above it or those below it. -/
theorem four_le_length_finePositions {best : Nat} (h : best ≤ 1023) : 4 ≤ (finePositions best).length := by
  obtain ⟨first, k, hk, hfirst, htop⟩ :
      ∃ (first : Nat) (k : Int), (k = 0 ∨ k = -3) ∧ (first : Int) = best + 8 * k ∧ first + 24 ≤ 1023 := by
    by_cases hlow : best ≤ 511
    · exact ⟨best, 0, .inl rfl, by omega, by omega⟩
    · exact ⟨best - 24, -3, .inr rfl, by omega, by omega⟩
  have hnodup : ((List.range 4).map (first + 8 * ·)).Nodup :=
    List.Pairwise.map _ (fun a b (h : a ≠ b) => show first + 8 * a ≠ first + 8 * b by omega) List.nodup_range
  have hmem : (List.range 4).map (first + 8 * ·) ⊆ finePositions best := by
    intro x hx
    obtain ⟨i, hi, rfl⟩ := List.mem_map.1 hx
    have hlt := List.mem_range.1 hi
    exact mem_finePositions.2 (mem_fineCandidates.2 ⟨k + i, by omega, by omega, by omega⟩)
  have hlength := length_le_of_nodup_subset hnodup hmem
  rwa [List.length_map, List.length_range] at hlength

/-- R105: the fine list has a first position. -/
theorem finePositions_cons (best : Nat) : ∃ p l, finePositions best = p :: l := by
  have hmem : min 1023 best ∈ finePositions best := by simp [mem_finePositions, fineCandidates]
  exact List.exists_cons_of_ne_nil (List.ne_nil_of_mem hmem)

/-! ## The best of the fine list (R105) -/

/-- R105: of the best measured position so far and the next one, the better, the earlier among equals. -/
def betterFine (best : Option (Nat × Nat)) (x : Nat × Nat) : Option (Nat × Nat) :=
  match best with
  | none => some x
  | some b => if b.2 < x.2 then some x else some b

theorem bestFine_eq (l : List (Nat × Nat)) : bestFine l = (l.foldl betterFine none).elim 0 Prod.fst := rfl

/-- A measured position is a best one of a list: none has a greater measure, and no lower position an equal one. -/
def IsBestFine (c : Nat × Nat) (l : List (Nat × Nat)) : Prop :=
  c ∈ l ∧ ∀ x ∈ l, x.2 ≤ c.2 ∧ (x.2 = c.2 → c.1 ≤ x.1)

/-- R105: over positions that rise, the better one kept at each is a best one of all. -/
theorem foldl_betterFine (b : Nat × Nat) (l : List (Nat × Nat)) (h : (b :: l).Pairwise fun x y => x.1 < y.1) :
    ∃ c, l.foldl betterFine (some b) = some c ∧ IsBestFine c (b :: l) := by
  induction l generalizing b with
  | nil => exact ⟨b, rfl, by simp [IsBestFine]⟩
  | cons x l ih =>
    obtain ⟨hb, hrest⟩ := List.pairwise_cons.1 h
    have hbx : b.1 < x.1 := hb x (by simp)
    by_cases hlt : b.2 < x.2
    · obtain ⟨c, hc, hmem, hbest⟩ := ih x hrest
      refine ⟨c, by rw [List.foldl_cons, betterFine, if_pos hlt, hc], List.mem_cons_of_mem _ hmem, ?_⟩
      have hx := (hbest x (by simp)).1
      exact List.forall_mem_cons.2 ⟨by omega, hbest⟩
    · obtain ⟨c, hc, hmem, hbest⟩ := ih b (List.pairwise_cons.2
        ⟨fun y hy => hb y (List.mem_cons_of_mem _ hy), (List.pairwise_cons.1 hrest).2⟩)
      obtain ⟨hhead, htail⟩ := List.forall_mem_cons.1 hbest
      refine ⟨c, by rw [List.foldl_cons, betterFine, if_neg hlt, hc], ?_, ?_⟩
      · exact (List.mem_cons.1 hmem).elim (fun heq => heq ▸ List.mem_cons_self) fun hin => by simp [hin]
      · exact List.forall_mem_cons.2 ⟨hhead, List.forall_mem_cons.2 ⟨by omega, htail⟩⟩

/-- R105: the best position of a measured list that rises. -/
theorem bestFine_isBest {l : List (Nat × Nat)} (hne : l ≠ []) (h : l.Pairwise fun x y => x.1 < y.1) :
    ∃ m, IsBestFine (bestFine l, m) l := by
  obtain ⟨b, t, rfl⟩ := List.exists_cons_of_ne_nil hne
  obtain ⟨c, hc, hbest⟩ := foldl_betterFine b t h
  have hfold : bestFine (b :: t) = c.1 := by
    rw [bestFine_eq, List.foldl_cons, betterFine, hc]
    rfl
  exact ⟨c.2, hfold ▸ hbest⟩

/-! ## The coarse search (R104) -/

/-- R105: a search enters FINE by a move to the first of its fine list. -/
theorem enterFine_eq (r : Search) (f : Focus) :
    ∃ p l, finePositions r.bestPos = p :: l ∧
      enterFine r f = wantMove p { f with state := .search { r with
        phase := .fine, bestMeasure := none, fineList := p :: l, fineIndex := 0, fineMeasures := [] } } := by
  obtain ⟨p, l, h⟩ := finePositions_cons r.bestPos
  exact ⟨p, l, h, by simp only [enterFine, h, List.headD_cons]⟩

/-- R104: after one step a search that has not reversed goes back to its best position. -/
theorem passedPeak_reverses {r : Search} (hsteps : r.steps = 1) (hrev : r.reversed = false) (f : Focus) :
    passedPeak r f =
      wantMove r.bestPos { f with state := .search { r with up := !r.up, reversed := true, steps := 0 } } :=
  if_pos ⟨hsteps, hrev⟩

/-- R104: any other search past its peak enters FINE. -/
theorem passedPeak_enters {r : Search} (h : r.steps ≠ 1 ∨ r.reversed = true) (f : Focus) :
    passedPeak r f = enterFine r f := by
  refine if_neg fun ⟨hsteps, hrev⟩ => ?_
  simp [hsteps, hrev] at h

/-- R104: the search has no further step in its direction. -/
def AtEnd (r : Search) (f : Focus) : Prop := if r.up then 1023 ≤ f.lensPos else f.lensPos = 0

/-- R104: with no further step, a step is the passed-peak outcome. -/
theorem stepSearch_end {r : Search} {f : Focus} (h : AtEnd r f) : stepSearch r f = passedPeak r f := by
  refine if_pos ?_
  cases hup : r.up <;> simpa [AtEnd, hup] using h

/-- R104: a step of 64 in the direction of the search. -/
theorem stepSearch_room {r : Search} {f : Focus} (h : ¬ AtEnd r f) :
    stepSearch r f = wantMove (if r.up then min 1023 (f.lensPos + 64) else f.lensPos - 64)
      { f with state := .search { r with steps := r.steps + 1 } } := by
  refine if_neg ?_
  cases hup : r.up <;> simpa [AtEnd, hup] using h

/-- R104: the search record once a valid measure at the lens position is compared with its best. -/
def takeMeasure (measure pos : Nat) (r : Search) : Search :=
  match r.bestMeasure with
  | none => { r with bestMeasure := some measure, bestPos := pos }
  | some b => if b < measure then { r with bestMeasure := some measure, bestPos := pos } else r

/-- R104: a comparison changes the best measure and position alone. -/
theorem takeMeasure_rest (measure pos : Nat) (r : Search) :
    let x := takeMeasure measure pos r
    x.up = r.up ∧ x.steps = r.steps ∧ x.reversed = r.reversed := by
  unfold takeMeasure
  repeat' split
  all_goals exact ⟨rfl, rfl, rfl⟩

/-- R104: the measure is below 15/16 of the best one. -/
def Falls (measure : Nat) (r : Search) : Prop := ∃ b, r.bestMeasure = some b ∧ 16 * measure < 15 * b

/-- R104: a measure below 15/16 of the best passes the peak. -/
theorem coarseMeasure_falls {measure : Nat} {r : Search} (h : Falls measure r) (f : Focus) :
    coarseMeasure measure r f = passedPeak (takeMeasure measure f.lensPos r) f := by
  obtain ⟨b, hbest, hfall⟩ := h
  have hle : ¬ b < measure := by omega
  simp only [coarseMeasure, takeMeasure, hbest, if_neg hle, if_pos hfall]

/-- R104: with any other measure the search steps. -/
theorem coarseMeasure_steps {measure : Nat} {r : Search} (h : ¬ Falls measure r) (f : Focus) :
    coarseMeasure measure r f = stepSearch (takeMeasure measure f.lensPos r) f := by
  cases hbest : r.bestMeasure with
  | none => simp only [coarseMeasure, takeMeasure, hbest]
  | some b =>
    have hhigh : ¬ 16 * measure < 15 * b := fun hfall => h ⟨b, hbest, hfall⟩
    simp only [coarseMeasure, takeMeasure, hbest, if_neg hhigh]
    split <;> rfl

/-- R104: a valid measure that shows the peak passed, or leaves no further step. -/
theorem coarseMeasure_passed {measure : Nat} {r : Search} {f : Focus} (h : Falls measure r ∨ AtEnd r f) :
    coarseMeasure measure r f = passedPeak (takeMeasure measure f.lensPos r) f := by
  by_cases hfall : Falls measure r
  · exact coarseMeasure_falls hfall f
  · have hend : AtEnd (takeMeasure measure f.lensPos r) f := by
      rw [AtEnd, (takeMeasure_rest ..).1]
      exact h.resolve_left hfall
    rw [coarseMeasure_steps hfall, stepSearch_end hend]

/-- R104: any other valid measure is followed by a step. -/
theorem coarseMeasure_room {measure : Nat} {r : Search} {f : Focus} (h : ¬ (Falls measure r ∨ AtEnd r f)) :
    coarseMeasure measure r f = wantMove (if r.up then min 1023 (f.lensPos + 64) else f.lensPos - 64)
      { f with state := .search { takeMeasure measure f.lensPos r with steps := r.steps + 1 } } := by
  obtain ⟨hfall, hend⟩ := not_or.1 h
  obtain ⟨hup, hsteps, -⟩ := takeMeasure_rest measure f.lensPos r
  have hroom : ¬ AtEnd (takeMeasure measure f.lensPos r) f := by rwa [AtEnd, hup]
  rw [coarseMeasure_steps hfall, stepSearch_room hroom, ← hup, ← hsteps]

/-! ## FOCUS_STATE of a search (R112) -/

/-- R112: a search that leaves the code of the focus state posts nothing. -/
theorem searchMoves_same {f : Focus} {s : State} (h : f.state.code = s.foc.state.code) :
    searchMoves f s = { s with foc := f } := if_pos h

/-- R112: a search that changes the code of the focus state tells it with cause SEARCH. -/
theorem searchMoves_changed {f : Focus} {s : State} (h : f.state.code ≠ s.foc.state.code) :
    searchMoves f s = postAll (focusNotice [0x10] f) { s with foc := f } := if_neg h

/-- Settles O24: the tests of R103 by `searchPublish_waits` and the four lemmas about a steady publish, the reset move
by `focusOnPublish_owed`, and the notice by `searchMoves_same` and `searchMoves_changed`. -/
theorem coarseSearchTakesTheFirstTestThatHolds : Obligations.CoarseSearchTakesTheFirstTestThatHolds := by
  refine ⟨?search, ?reset, ?notice⟩
  case search =>
    intro measure motion width wake still f r hstate howed g h off
    have hg : g = searchPublish measure motion width still r h :=
      focusOnPublish_search measure motion width wake still hstate howed
    rw [hg]
    refine ⟨fun hmove => searchPublish_waits (.inl hmove), fun hlink hwanted =>
      ⟨fun hunsteady => searchPublish_waits (.inr hunsteady), ?steady⟩⟩
    rintro hstill rfl
    have hstands : h.link = none := hlink
    have hnone : h.wanted = none := hwanted
    have hcalm : motion < h.threshold := hstill
    refine ⟨fun hwidth => ?restart, searchPublish_settles hstands hnone hcalm measure,
      fun hwidth hsettle hphase => ?coarse⟩
    case restart =>
      have haim : aimPosition h = f.lensPos := by simp [aimPosition, h, hlink, hwanted]
      rw [searchPublish_restarts hstands hnone hcalm measure hwidth, startSearch, haim]
    case coarse =>
      intro best x passed moves
      have hmoves {p : Nat} {y : Search} (hy : coarseMeasure measure r h = wantMove p { h with state := .search y }) :
          moves p y :=
        calc searchPublish measure motion width true r h
          _ = coarseMeasure measure r h := searchPublish_coarse hstands hnone hcalm measure hwidth hsettle hphase
          _ = wantMove p { h with state := .search y } := hy
          _ = _ := wantMove_search hstands howed p y
      obtain ⟨hup, hsteps, hrev⟩ : x.up = r.up ∧ x.steps = r.steps ∧ x.reversed = r.reversed :=
        takeMeasure_rest measure f.lensPos r
      have hpeak (hpassed : passed) : coarseMeasure measure r h = passedPeak x h := coarseMeasure_passed hpassed
      refine ⟨fun hroom => hmoves (coarseMeasure_room hroom), fun hpassed hone hfirst => hmoves ?reverses,
        fun hpassed hmore => ?enters⟩
      case reverses => rw [hpeak hpassed, passedPeak_reverses (hsteps.trans hone) (hrev.trans hfirst), hup]
      case enters =>
        obtain ⟨p, l, hlist, hfine⟩ := enterFine_eq x h
        exact ⟨p, l, hlist, hmoves ((hpeak hpassed).trans ((passedPeak_enters (by rwa [hsteps, hrev]) h).trans hfine))⟩
  case reset =>
    intro measure motion width wake still f g moved
    refine ⟨fun howed hheld => ?owed, fun hrests => focusOnPublish_rests measure motion width wake still hrests⟩
    have hmoved : wantMove f.lensPos f = moved := by
      have hstate : resetSettle f.state = moved.state := rfl
      cases hlink : f.link with
      | none => rw [wantMove_idle hlink, hstate]; simp [moved, hlink]
      | some m => rw [wantMove_busy hlink, hstate]; simp [moved, hlink]
    rw [← hmoved]
    exact focusOnPublish_owed howed hheld measure motion width wake still
  case notice =>
    intro measure motion s t width f code
    have hcode (x : FocusState) : code x = x.code := by
      cases x with
      | search r => cases hphase : r.phase <;> simp [code, FocusState.code, hphase]
      | locked | parked | held | fault => rfl
    rw [hcode, hcode]
    exact ⟨searchMoves_same, searchMoves_changed⟩

/-! ## A measure in phase FINE, and staying locked (R105, R106) -/

/-- R105: a measure at any but the last fine position is followed by a move to the next. -/
theorem fineMeasure_next {r : Search} {p : Nat} (h : r.fineList[r.fineIndex + 1]? = some p) (m width : Nat)
    (f : Focus) :
    fineMeasure m width r f = wantMove p { f with state := .search { r with
      fineMeasures := r.fineMeasures ++ [m], fineIndex := r.fineIndex + 1 } } := by
  simp only [fineMeasure, h]

/-- R105: the measure at the last fine position locks the best one. -/
theorem fineMeasure_last_position {r : Search} (h : r.fineList[r.fineIndex + 1]? = none) (m width : Nat)
    (f : Focus) :
    fineMeasure m width r f = enterLocked (bestFine (r.fineList.zip (r.fineMeasures ++ [m]))) width f := by
  simp only [fineMeasure, h]

/-- R105: FOC locks on an idle link, and moves to the position it locks unless the lens stands there. -/
theorem enterLocked_idle {f : Focus} (hlink : f.link = none) (howed : f.owed = false) (pos width : Nat) :
    enterLocked pos width f = { f with
      link := if f.lensPos = pos then none else some { pos := pos, attempt := 1, addr := f.addr }
      state := .locked { pos := pos, width := width, motionSeen := false, quiet := 0 } } := by
  let locked : Focus :=
    { f with state := .locked { pos := pos, width := width, motionSeen := false, quiet := 0 } }
  have hcases : enterLocked pos width f = if f.lensPos = pos then locked else wantMove pos locked := rfl
  rw [hcases]
  split
  · rw [← hlink]
  · exact wantMove_unowed (f := locked) hlink howed pos

/-- R106: the motion watch after a count, field by field. -/
theorem watchMotion_eq (motion threshold wake : Nat) (l : Lock) :
    watchMotion motion threshold wake l = { l with
      motionSeen := l.motionSeen || decide (threshold ≤ motion)
      quiet := if motion < threshold ∧ motion < wake ∧ l.motionSeen = true then l.quiet + 1 else 0 } := by
  by_cases hmoves : threshold ≤ motion
  · have hstill : ¬ (motion < threshold ∧ motion < wake ∧ l.motionSeen = true) :=
      fun h => Nat.not_lt.2 hmoves h.1
    rw [watchMotion, if_pos hmoves, if_neg hstill, decide_eq_true hmoves, Bool.or_true]
  · rw [watchMotion, if_neg hmoves, decide_eq_false hmoves, Bool.or_false]
    by_cases hquiet : motion < wake ∧ l.motionSeen = true
    · rw [if_pos hquiet, if_pos ⟨Nat.lt_of_not_le hmoves, hquiet⟩]
    · rw [if_neg hquiet, if_neg fun h => hquiet h.2]

section Locked

variable {motion width wake : Nat} {still : Bool} {l kept : Lock} {f : Focus}
  (hkept : watchMotion motion f.threshold wake l = kept)
include hkept

/-- R106: what a publish does in LOCKED, by the lock its motion watch leaves. -/
theorem lockedPublish_eq :
    lockedPublish motion width wake still l f =
      if (still = true ∧ l.width ≤ 4 * ((width : Int) - l.width).natAbs) ∨ 3 ≤ kept.quiet then startSearch width f
      else { f with state := .locked kept } := by
  have hwidth : kept.width = l.width := by rw [← hkept, watchMotion_eq]
  simp only [lockedPublish, hkept, hwidth, widthGap_eq_natAbs]

/-- R106: a window a quarter off after a glide, or a third quiet count, starts a new search. -/
theorem lockedPublish_restarts
    (h : (still = true ∧ l.width ≤ 4 * ((width : Int) - l.width).natAbs) ∨ 3 ≤ kept.quiet) :
    lockedPublish motion width wake still l f = startSearch width f := (lockedPublish_eq hkept).trans (if_pos h)

/-- R106: else FOC stays LOCKED. -/
theorem lockedPublish_stays
    (h : ¬ ((still = true ∧ l.width ≤ 4 * ((width : Int) - l.width).natAbs) ∨ 3 ≤ kept.quiet)) :
    lockedPublish motion width wake still l f = { f with state := .locked kept } :=
  (lockedPublish_eq hkept).trans (if_neg h)

end Locked

/-- R98: where the lens is aimed, written out. -/
theorem aimPosition_eq (f : Focus) :
    aimPosition f = f.wanted.getD (match f.link with
      | none => f.lensPos
      | some m => m.pos) := by
  unfold aimPosition
  cases f.link <;> rfl

/-- Settles O25: the fine list by `finePositions_pairwise` and `mem_finePositions`, its best by `bestFine_isBest`, FINE
by the two cases of `fineMeasure`, and LOCKED by those of `lockedPublish` after the watch of `watchMotion_eq`. -/
theorem fineSearchLocksTheBestPosition : Obligations.FineSearchLocksTheBestPosition := by
  refine ⟨fun best hbest => ?list, fun l hne hrise => bestFine_isBest hne hrise, ?fine, ?locked⟩
  case list =>
    exact ⟨finePositions_pairwise best, four_le_length_finePositions hbest, length_foldl_joinNew_le _ [],
      fun x => mem_finePositions.trans mem_fineCandidates⟩
  case fine =>
    intro measure motion width wake f r hstate howed hlink hwanted hstill hwidth hsettle hphase g h taken best
    have hg : g = fineMeasure measure width r h :=
      (focusOnPublish_search measure motion width wake true hstate howed).trans
        (searchPublish_fine (f := h) hlink hwanted hstill measure hwidth hsettle hphase)
    rw [hg]
    refine ⟨fun p hnext => ?next, fun hlast => ?last⟩
    case next => exact (fineMeasure_next hnext measure width h).trans (wantMove_search (f := h) hlink howed p _)
    case last =>
      exact (fineMeasure_last_position hlast measure width h).trans (enterLocked_idle (f := h) hlink howed best width)
  case locked =>
    intro measure motion width wake still f l hstate howed g h quiet again aim anew kept
    have hkept : watchMotion motion h.threshold wake l = kept := watchMotion_eq motion f.threshold wake l
    have haim : aimPosition h = aim := aimPosition_eq h
    have hanew : startSearch width h = { h with state := .search anew } := by rw [startSearch, haim]
    have hg : g = lockedPublish motion width wake still l h :=
      focusOnPublish_locked measure motion width wake still hstate howed
    rw [hg]
    exact ⟨fun hagain => (lockedPublish_restarts hkept hagain).trans hanew, lockedPublish_stays hkept⟩

end Sys2Proof.Machine
end

section
/-! SUPPORT. The lens link (R99, R100): what stands on it, when a transaction succeeds, and what its end does to the
focus record and tells. -/

namespace Sys2Proof.Machine

/-! ## The transaction (R99) -/

/-- R99: what ends on a release of the bus does not succeed. -/
theorem lensSucceeds_held (m : LensMove) (acks : List Bool) : lensSucceeds (lensClockHeld m acks) = false := by
  simp [lensSucceeds, lensClockHeld, LensSignal.fails]

/-- R99: bytes that the driver answers one by one all arrive where it acknowledges each. -/
theorem lensSucceeds_sendLensBytes {bytes : List Byte} {acks : List Bool} (h : bytes.length = acks.length) :
    lensSucceeds (sendLensBytes bytes acks) = acks.all id := by
  induction bytes generalizing acks with
  | nil => rw [List.eq_nil_of_length_eq_zero h.symm]; rfl
  | cons b bytes ih =>
    cases acks with
    | nil => contradiction
    | cons a acks =>
      have hrest : lensSucceeds (sendLensBytes bytes acks) = acks.all id := ih (Nat.succ.inj h)
      cases a
      · rfl
      · exact hrest

/-- R99: a transaction succeeds on three acknowledgements. -/
theorem lensSucceeds_transaction (m : LensMove) (a b c : Bool) :
    lensSucceeds (lensTransaction m [a, b, c]) = (a && b && c) := by
  have hbytes : lensSucceeds (sendLensBytes (lensBytes m) [a, b, c]) = [a, b, c].all id :=
    lensSucceeds_sendLensBytes rfl
  have hends (sent : List LensSignal) : lensSucceeds (.start :: sent ++ [.stop]) = lensSucceeds sent := by
    simp [lensSucceeds, LensSignal.fails]
  rw [lensTransaction, hends, hbytes]
  simp [Bool.and_assoc]

/-- R99, log 40: the three bytes of a transaction for a position and an address in range. -/
theorem lensBytes_eq {m : LensMove} (hpos : m.pos ≤ 1023) (haddr : m.addr ≤ 0x77) :
    ∃ x y z : Byte, x.toNat = 2 * m.addr ∧ y.toNat = m.pos / 256 ∧ z.toNat = m.pos % 256 ∧ lensBytes m = [x, y, z] := by
  refine ⟨_, _, _, ?_, ?_, ?_, rfl⟩ <;> rw [BitVec.toNat_ofNat] <;> omega

/-! ## The focus record after its end (R100) -/

section Ended

variable {f : Focus} {m : LensMove}

/-- R100, log 1: with no transaction in flight nothing ends. -/
theorem lensEnded_idle (hlink : f.link = none) (success : Bool) : lensEnded success f = f := by
  simp only [lensEnded, hlink]

/-- R100: after a success a wanted position starts as attempt 1. -/
theorem lensEnded_wanted (hlink : f.link = some m) {pos : Nat} (hwanted : f.wanted = some pos) :
    lensEnded true f = { f with
      lensPos := m.pos, link := some { pos := pos, attempt := 1, addr := f.addr }, wanted := none } := by
  simp only [lensEnded, hlink, hwanted, if_true]

/-- R100: a success with no wanted position completes the move. -/
theorem lensEnded_complete (hlink : f.link = some m) (hwanted : f.wanted = none) :
    lensEnded true f = moveComplete { f with lensPos := m.pos, link := none } := by
  simp only [lensEnded, hlink, hwanted, if_true]

/-- R100, log 21: attempt 1 failed. -/
theorem lensEnded_retry (hlink : f.link = some m) (hattempt : m.attempt = 1) :
    lensEnded false f = { f with
      link := some { pos := f.wanted.getD m.pos, attempt := 2, addr := m.addr }, wanted := none } := by
  simp only [lensEnded, hlink, hattempt, if_true, Bool.false_eq_true, if_false]

/-- R100: attempt 2 failed. -/
theorem lensEnded_fault (hlink : f.link = some m) (hattempt : m.attempt ≠ 1) :
    lensEnded false f = { f with link := none, wanted := none, state := .fault } := by
  simp only [lensEnded, hlink, hattempt, Bool.false_eq_true, if_false]

/-- R104: a search that a completed move has brought back to its best position. -/
theorem turnedBack_iff (r : Search) : turnedBack r = true ↔ r.phase = .coarse ∧ r.reversed = true ∧ r.steps = 0 := by
  simp [turnedBack, and_assoc]

/-- R100, R104: a completed move of a search that has just turned back is followed by a step. -/
theorem moveComplete_turned {r : Search} (hstate : f.state = .search r) (hturned : turnedBack r = true) :
    moveComplete f = stepSearch r f := by
  simp only [moveComplete, hstate, hturned, if_true]

/-- R100: any other completed move leaves the link idle. -/
theorem moveComplete_rests (h : ∀ r, f.state = .search r → ¬ turnedBack r = true) : moveComplete f = f := by
  unfold moveComplete
  split
  case h_1 r hstate => exact if_neg (h r hstate)
  case h_2 => rfl

/-- R104: where a search has a further step. -/
theorem not_atEnd_iff (r : Search) (f : Focus) :
    ¬ AtEnd r f ↔ if r.up then f.lensPos < 1023 else 0 < f.lensPos := by
  unfold AtEnd
  split <;> omega

end Ended

/-! ## What its end tells (R112) -/

/-- R98: the code of a search in phase COARSE. -/
theorem code_search_coarse {r : Search} (h : r.phase = .coarse) : (FocusState.search r).code = 0 := by
  simp only [FocusState.code, h]

/-- R100: which ends are the second failure of a move. -/
theorem lensFails_iff (success : Bool) (f : Focus) :
    lensFails success f = true ↔ success = false ∧ ∃ m, f.link = some m ∧ m.attempt ≠ 1 := by
  cases hlink : f.link <;> simp [lensFails, hlink]

section Tells

variable {success : Bool} {s : State} {f : Focus}

/-- R112: an end that leaves the code of the focus state posts nothing. -/
theorem focusLensEnd_same (hfails : ¬ lensFails success s.foc = true) (hends : lensEnded success s.foc = f)
    (hcode : f.state.code = s.foc.state.code) : focusLensEnd success s = { s with foc := f } := by
  rw [focusLensEnd, if_neg hfails, hends, searchMoves_same hcode]

/-- R112: an end that changes the code, and is no second failure, is told with cause SEARCH. -/
theorem focusLensEnd_changed (hfails : ¬ lensFails success s.foc = true) (hends : lensEnded success s.foc = f)
    (hcode : f.state.code ≠ s.foc.state.code) :
    focusLensEnd success s = postAll (focusNotice [0x10] f) { s with foc := f } := by
  rw [focusLensEnd, if_neg hfails, hends, searchMoves_changed hcode]

/-- R100, R112: a second failure is told with cause LINK. -/
theorem focusLensEnd_fails (hfails : lensFails success s.foc = true) (hends : lensEnded success s.foc = f) :
    focusLensEnd success s = postAll (focusNotice [0x11] f) { s with foc := f } := by
  rw [focusLensEnd, if_pos hfails, hends]
  rfl

end Tells

/-- R100, log 1: with no transaction in flight nothing ends and nothing is told. -/
theorem focusLensEnd_idle {s : State} (hlink : s.foc.link = none) (success : Bool) : focusLensEnd success s = s := by
  have hfails : ¬ lensFails success s.foc = true := by simp [lensFails_iff, hlink]
  exact focusLensEnd_same hfails (lensEnded_idle hlink success) rfl

/-- R99, R100: LENS_TRANSACTION_END is the end of a transaction that succeeds on three acknowledgements. -/
theorem exec_lensTransactionEnd (a b c : Bool) (s : State) :
    exec (.lensTransactionEnd a b c) s = .next (focusLensEnd (a && b && c) s) := by
  cases hlink : s.foc.link with
  | none => simp only [exec, execLensTransactionEnd, hlink, focusLensEnd_idle hlink]
  | some m => simp only [exec, execLensTransactionEnd, hlink, lensSucceeds_transaction]

/-- Settles O23: the bus by the three bytes of `lensBytes_eq`, and both commands as ends of one transaction, each outcome
by its case of `lensEnded` and of `focusLensEnd`. -/
theorem lensTransactionsRetryOnce : Obligations.LensTransactionsRetryOnce := by
  refine ⟨fun m a b c hpos haddr => ?bus, fun a b c s => ?ends⟩
  case bus =>
    obtain ⟨x, y, z, hx, hy, hz, hbytes⟩ := lensBytes_eq hpos haddr
    refine ⟨x, y, z, hx, hy, hz, ?_⟩
    have hheld (acks : List Bool) : lensClockHeld m acks = .start :: sendLensBytes [x, y, z] acks ++ [.release] := by
      rw [lensClockHeld, hbytes]
    have hsent (acks : List Bool) : lensTransaction m acks = .start :: sendLensBytes [x, y, z] acks ++ [.stop] := by
      rw [lensTransaction, hbytes]
    have hsucceeds : lensSucceeds (lensTransaction m [a, b, c]) = true ↔ a = true ∧ b = true ∧ c = true := by
      simp [lensSucceeds_transaction, and_assoc]
    refine ⟨?_, ?_, ?_, hsucceeds, hheld [], hheld [true], hheld [true, true], lensSucceeds_held m⟩
    · rintro rfl
      exact hsent [false, b, c]
    · rintro rfl rfl
      exact hsent [true, false, c]
    · rintro rfl rfl
      rw [hsent]
      cases c <;> rfl
  case ends =>
    intro ends
    have hends (ok : Bool) : ends ok (.next (focusLensEnd ok s)) := by
      refine ⟨fun hlink => congrArg _ (focusLensEnd_idle hlink ok), fun m hlink => ?_⟩
      intro k
      refine ⟨?success, ?retry, ?fault⟩
      case success =>
        rintro rfl
        have hfails : ¬ lensFails true s.foc = true := by simp [lensFails_iff]
        have hcomplete (hwanted : s.foc.wanted = none) : lensEnded true s.foc = moveComplete k :=
          lensEnded_complete hlink hwanted
        have hturned {r : Search} (hwanted : s.foc.wanted = none) (hstate : s.foc.state = .search r)
            (hphase : r.phase = .coarse) (hrev : r.reversed = true) (hsteps : r.steps = 0) :
            lensEnded true s.foc = stepSearch r k :=
          (hcomplete hwanted).trans (moveComplete_turned hstate ((turnedBack_iff r).2 ⟨hphase, hrev, hsteps⟩))
        refine ⟨fun w hwanted => ?wanted, fun hwanted hrests => ?idle,
          fun r hwanted hstate hphase hrev hsteps hroom => ?room,
          fun r hwanted hstate hphase hrev hsteps hend => ?fine⟩
        case wanted => exact congrArg _ (focusLensEnd_same hfails (lensEnded_wanted hlink hwanted) rfl)
        case idle =>
          have hk : moveComplete k = k := moveComplete_rests fun r hstate hback =>
            hrests r hstate ((turnedBack_iff r).1 hback)
          exact congrArg _ (focusLensEnd_same hfails ((hcomplete hwanted).trans hk) rfl)
        case room =>
          have hstep := hturned hwanted hstate hphase hrev hsteps
          rw [stepSearch_room ((not_atEnd_iff r k).2 hroom), wantMove_idle rfl, hsteps] at hstep
          exact congrArg _ (focusLensEnd_same hfails hstep
            (by rw [hstate, code_search_coarse hphase]; exact code_search_coarse hphase))
        case fine =>
          obtain ⟨p, l, hlist, hfine⟩ := enterFine_eq r k
          have hstep := hturned hwanted hstate hphase hrev hsteps
          rw [stepSearch_end (Classical.not_not.1 (mt (not_atEnd_iff r k).1 hend)), passedPeak_enters (.inr hrev), hfine,
            wantMove_idle rfl] at hstep
          exact ⟨p, l, hlist, congrArg _ (focusLensEnd_changed hfails hstep
            (by rw [hstate, code_search_coarse hphase]; exact Nat.one_ne_zero))⟩
      case retry =>
        rintro rfl hattempt
        have hfails : ¬ lensFails false s.foc = true := by simp [lensFails_iff, hlink, hattempt]
        exact congrArg _ (focusLensEnd_same hfails (lensEnded_retry hlink hattempt) rfl)
      case fault =>
        rintro rfl hattempt
        have hfails : lensFails false s.foc = true := (lensFails_iff false s.foc).2 ⟨rfl, m, hlink, hattempt⟩
        exact congrArg _ (focusLensEnd_fails hfails (lensEnded_fault hlink hattempt))
    rw [exec_lensTransactionEnd]
    exact ⟨hends _, hends false⟩

end Sys2Proof.Machine
end

section
/-! SUPPORT. The focus requests (R108 to R112) at a port that takes them, and the wake with the requests of the idle unit
(R107, R119, R121, R123, R124). -/

namespace Sys2Proof.Machine

/-! ## The requests at a port that takes them -/

/-- R108, R187: FOCUS_AUTO at a port that takes requests. -/
theorem exec_focusAuto_serves {p : PortId} {s : State} (h : Serves p s) (threshold : Option Half) :
    exec (.focusAuto p threshold) s = .next (takeFocusAuto p threshold (requestTaken p s)) := by
  simp only [exec, execFocusAuto]
  refine submit_serves h _ _ ?_
  cases threshold <;> simp [optionalHalf, halfBytes]

/-- R109, R187: FOCUS_MANUAL at a port that takes requests. -/
theorem exec_focusManual_serves {p : PortId} {s : State} (h : Serves p s) (position : Half) :
    exec (.focusManual p position) s = .next (takeFocusManual p position (requestTaken p s)) := by
  simp only [exec, execFocusManual]
  exact submit_serves h _ _ (by simp [halfBytes])

/-- R110, R187: SET_FOCUS_LINK at a port that takes requests. -/
theorem exec_setFocusLink_serves {p : PortId} {s : State} (h : Serves p s) (address : Byte) :
    exec (.setFocusLink p address) s = .next (takeSetFocusLink p address (requestTaken p s)) := by
  simp only [exec, execSetFocusLink]
  exact submit_serves h _ _ (by simp)

/-- R111, R187: GET_FOCUS at a port that takes requests. -/
theorem exec_getFocus_serves {p : PortId} {s : State} (h : Serves p s) :
    exec (.getFocus p) s = .next (takeGetFocus p (requestTaken p s)) := by
  simp only [exec, execGetFocus]
  exact submit_serves h _ _ (by simp)

/-- R123, R187: WAKE at a port that takes requests. -/
theorem exec_wake_serves {p : PortId} {s : State} (h : Serves p s) :
    exec (.wake p) s = .next (takeWake p (requestTaken p s)) := by
  simp only [exec, execWake]
  exact submit_serves h _ _ (by simp)

/-- R123, R187: SET_IDLE at a port that takes requests. -/
theorem exec_setIdle_serves {p : PortId} {s : State} (h : Serves p s) (timeout : Half) (wake : Option Half) :
    exec (.setIdle p timeout wake) s = .next (takeSetIdle p timeout wake (requestTaken p s)) := by
  simp only [exec, execSetIdle]
  refine submit_serves h _ _ ?_
  cases wake <;> simp [optionalHalf, halfBytes]

/-! ## The requests that change the focus record (R108 to R110) -/

/-- R112: a request that leaves a focus record tells it to all three ports, with the port as cause, and answers OK. -/
def focusTaken (p : PortId) (code : Byte) (data : List Byte) (f : Focus) (s : State) : State :=
  answer p .ok code data (postAll (focusNotice (u8 (portNumber p)) f) { s with foc := f })

/-- R108: the threshold and the mode FOCUS_AUTO takes. -/
def autoTaken (threshold : Option Half) (f : Focus) : Focus :=
  { f with mode := .auto, threshold := (threshold.map fun x => max 1 (min 768 x.toNat)).getD f.threshold }

/-- R100, R103: what a wanted move leaves, and what it does to the state. -/
theorem wantMove_rest (pos : Nat) (f : Focus) :
    let g := wantMove pos f
    g.mode = f.mode ∧ g.threshold = f.threshold ∧ g.state = resetSettle f.state := by
  simp only [wantMove]
  split <;> exact ⟨rfl, rfl, rfl⟩

/-- R108: FOCUS_AUTO starts a new search, and from FAULT wants a move to the lens position. -/
theorem takeFocusAuto_eq (p : PortId) (threshold : Option Half) (s : State) :
    let g := startSearch (liveWindow s).w (autoTaken threshold s.foc)
    takeFocusAuto p threshold s =
      focusTaken p 0x30 ([0, 0] ++ u16 g.threshold) (if s.foc.state = .fault then wantMove s.foc.lensPos g else g) s := by
  intro g
  by_cases hfault : s.foc.state = .fault
  · have hmoves : takeFocusAuto p threshold s =
        (let f := wantMove s.foc.lensPos g
         focusTaken p 0x30 (u8 f.mode.code ++ u8 f.state.code ++ u16 f.threshold) f s) := by
      simp only [takeFocusAuto, hfault, decide_true, if_true]
      rfl
    obtain ⟨hmode, hthreshold, hstate⟩ := wantMove_rest s.foc.lensPos g
    rw [hmoves, if_pos hfault]
    simp only [hmode, hthreshold, hstate]
    rfl
  · have hstays : takeFocusAuto p threshold s =
        focusTaken p 0x30 (u8 g.mode.code ++ u8 g.state.code ++ u16 g.threshold) g s := by
      simp only [takeFocusAuto, hfault, decide_false, Bool.false_eq_true, if_false]
      rfl
    rw [hstays, if_neg hfault]
    rfl

/-- R109: FOCUS_MANUAL parks FOC, and wants a move unless the lens is aimed there. -/
theorem takeFocusManual_eq (p : PortId) (position : Half) (s : State) :
    takeFocusManual p position s =
      let pos := min 1023 position.toNat
      let g : Focus := { s.foc with mode := .manual, state := .parked }
      focusTaken p 0x31 (u16 pos) (if aimPosition s.foc = pos then g else wantMove pos g) s := by
  simp only [takeFocusManual, clamp, Nat.zero_max]
  rfl

/-- R110: SET_FOCUS_LINK of an address in range. -/
theorem takeSetFocusLink_ok (p : PortId) {address : Byte} (hlow : 0x08 ≤ address.toNat) (hhigh : address.toNat ≤ 0x77)
    (s : State) :
    takeSetFocusLink p address s =
      focusTaken p 0x32 (u8 address.toNat) { s.foc with addr := address.toNat } s := if_neg (by omega)

/-- R110: SET_FOCUS_LINK of any other address. -/
theorem takeSetFocusLink_bad (p : PortId) {address : Byte} (h : address.toNat < 0x08 ∨ 0x77 < address.toNat)
    (s : State) : takeSetFocusLink p address s = answer p .badParam 0x32 [] s := if_pos h

/-! ## The fields of GET_FOCUS (R111) -/

/-- R111, log 16: the fields of the lens link. -/
def linkFields (l : Option LensMove) : List Byte :=
  u8 (if l.isSome then 1 else 0) ++ optionalField (fun m => u16 (LensMove.pos m)) l ++
    optionalField (fun m => u8 (LensMove.attempt m)) l

/-- R111, log 16: the fields of the measure and motion count delivered last. -/
def lastFields (x : Option (Nat × Nat)) : List Byte :=
  optionalField u32 (x.map Prod.fst) ++ optionalField u16 (x.map Prod.snd)

/-- R111: what GET_FOCUS answers, by the aim position and the bytes of the fields that may be absent. -/
theorem takeGetFocus_eq (p : PortId) {s : State} {aim : Nat} {link wanted last : List Byte}
    (haim : aimPosition s.foc = aim) (hlink : linkFields s.foc.link = link)
    (hwanted : optionalField u16 s.foc.wanted = wanted) (hlast : lastFields s.foc.last = last) :
    takeGetFocus p s =
      let f := s.foc
      answer p .ok 0x33
        (u8 f.mode.code ++ u8 f.state.code ++ u16 f.lensPos ++ u16 aim ++ link ++ wanted ++ u8 f.addr ++
          u16 f.threshold ++ searchField f.state.search? ++ lockField f.state.lock? ++ last) s := by
  subst haim hlink hwanted hlast
  simp only [takeGetFocus, linkFields, lastFields, List.append_assoc]

/-- R98: in a state that is no search there is no search record. -/
theorem search?_none {x : FocusState} (h : ∀ r, x ≠ .search r) : x.search? = none := by
  cases x with
  | search r => exact absurd rfl (h r)
  | locked | parked | held | fault => rfl

/-- R98: in a state that is not LOCKED there is no lock record. -/
theorem lock?_none {x : FocusState} (h : ∀ l, x ≠ .locked l) : x.lock? = none := by
  cases x with
  | locked l => exact absurd rfl (h l)
  | search | parked | held | fault => rfl

/-- R111: the direction of a search as a signed byte. -/
theorem s8_direction (up : Bool) : s8 (if up then 1 else -1) = [if up then 1 else 255] := by
  cases up <;> rfl

/-- R111, log 16: the fields of a search record that are present in both phases. -/
def searchFields (r : Search) : List Byte :=
  [1, if r.up then 1 else 255] ++ 1 :: u8 r.steps ++ 1 :: flagByte r.reversed ++ optionalField u32 r.bestMeasure ++
    1 :: u16 r.bestPos ++ 1 :: u8 r.settle ++ 1 :: u16 r.width

/-- R111: the fields of a search in phase COARSE. -/
theorem searchField_coarse {r : Search} (h : r.phase = .coarse) :
    searchField (some r) = [1, 0] ++ searchFields r ++ [0, 0, 0] := by
  have hfine : (some r).filter (fun r => decide (r.phase = .fine)) = none := by simp [Option.filter, h]
  simp [hfine, searchField, searchFields, h, s8_direction, optionalField, SearchPhase.code, u8]

/-- R111: the fields of a search in phase FINE. -/
theorem searchField_fine {r : Search} (h : r.phase = .fine) :
    searchField (some r) = [1, 1] ++ searchFields r ++ 1 :: u8 r.fineList.length ++
      r.fineList.flatMap u16 ++ 1 :: u8 r.fineIndex ++ 1 :: u8 r.fineMeasures.length ++ r.fineMeasures.flatMap u32 := by
  have hfine : (some r).filter (fun r => decide (r.phase = .fine)) = some r := by simp [Option.filter, h]
  simp [entryList, hfine, searchField, searchFields, h, s8_direction, optionalField, SearchPhase.code, u8]

/-- Settles O26: each request acts on the state its taking leaves; the two that may want a move by `takeFocusAuto_eq` and
`takeFocusManual_eq`, GET_FOCUS field by field. -/
theorem focusRequestsSearchParkAndReport : Obligations.FocusRequestsSearchParkAndReport := by
  intro p threshold position address s hs r f t width aim wants done
  rw [exec_focusAuto_serves hs, exec_focusManual_serves hs, exec_setFocusLink_serves hs, exec_getFocus_serves hs]
  have haim : aimPosition f = aim := aimPosition_eq f
  have hwants {pos : Nat} {g : Focus} (hlink : g.link = f.link) (haddr : g.addr = f.addr)
      (hstate : resetSettle g.state = g.state) : wantMove pos g = wants pos g := by
    cases hcase : f.link with
    | none =>
      rw [wantMove_idle (hlink.trans hcase), hstate]
      simp only [wants, hcase, haddr]
    | some m =>
      rw [wantMove_busy (hlink.trans hcase), hstate]
      simp only [wants, hcase]
  refine ⟨?auto, ?manual, fun hlow hhigh => congrArg _ (takeSetFocusLink_ok p hlow hhigh r),
    fun hbad => congrArg _ (takeSetFocusLink_bad p hbad r),
    searchField f.state.search?, lockField f.state.lock?, ?report, fun h => ?noSearch, fun h => ?noLock,
    fun x hstate => ?lock, fun x hstate hphase => ?coarse, fun x hstate hphase => ?fine⟩
  case auto =>
    intro th anew g
    have hg : startSearch (liveWindow r).w (autoTaken threshold r.foc) = g := by
      have hth : (autoTaken threshold r.foc).threshold = th := by cases threshold <;> rfl
      have haimed : aimPosition (autoTaken threshold r.foc) = aim := haim
      rw [startSearch, haimed, hth]
      rfl
    have hfault : wantMove r.foc.lensPos g = wants f.lensPos g := hwants rfl rfl rfl
    refine congrArg _ ((takeFocusAuto_eq p threshold r).trans ?_)
    rw [hg, hfault]
    rfl
  case manual =>
    intro pos g
    have haimed : aimPosition r.foc = aim := haim
    have hmoves : wantMove pos g = wants pos g := hwants rfl rfl rfl
    rw [takeFocusManual_eq, haimed, ← hmoves]
    rfl
  case report =>
    refine congrArg _ (takeGetFocus_eq p haim ?_ ?_ ?_)
    · cases f.link <;> rfl
    · cases f.wanted <;> rfl
    · cases f.last <;> rfl
  case noSearch => rw [search?_none h]; rfl
  case noLock => rw [lock?_none h]; rfl
  case lock => rw [hstate]; rfl
  case coarse =>
    rw [hstate]
    refine (searchField_coarse hphase).trans ?_
    unfold searchFields
    cases x.bestMeasure <;> rfl
  case fine =>
    rw [hstate]
    refine (searchField_fine hphase).trans ?_
    unfold searchFields
    cases x.bestMeasure <;> rfl

/-! ## The wake (R107, R121) -/

/-- R107, R112: on the wake FOC leaves HELD for a new search or PARKED, by its mode, and tells it. -/
theorem focusWake_eq (s : State) :
    focusWake s =
      let search := (startSearch (liveWindow s).w s.foc).state
      let g : Focus := { s.foc with state := if s.foc.mode = .auto then search else .parked }
      if s.foc.state = .held then postAll (focusNotice [0x13] g) { s with foc := g } else s := by
  unfold focusWake
  cases hstate : s.foc.state with
  | held => cases hmode : s.foc.mode <;> rfl
  | search r => rfl
  | locked l => rfl
  | parked => rfl
  | fault => rfl

/-- R107: FOC's part of the wake leaves the idle unit. -/
theorem focusWake_liu (s : State) : (focusWake s).liu = s.liu := by
  obtain ⟨f, ⟨a, b, c, -, -, -, h⟩, -⟩ := focusWake_does s
  rw [h]

/-- R121, R124: the wake restarts the idle timer, sets the reseed flag and wakes FOC, and then tells all ports. -/
theorem wakePart_eq (cause : List Byte) (motion : Option Nat) (s : State) :
    wakePart cause motion s =
      postAll { kind := .idleState, contents := [0] ++ cause ++ u8 s.liu.timeout ++ optionalField u16 motion }
        (focusWake { s with
          liu := { s.liu with doze := false, minutes := 0, minuteFrom := s.now }
          sst := { s.sst with reseed := true } }) := by
  simp only [wakePart, idleNotice, focusWake_liu]
  rfl

/-- Settles O29: the wake by `wakePart_eq` and `focusWake_eq`, both requests on the state their taking leaves. -/
theorem requestsAndMotionWakeOrRestart : Obligations.RequestsAndMotionWakeOrRestart := by
  refine ⟨fun s => ?wake, fun p timeout wake s hs => ?requests⟩
  case wake =>
    intro a w t width aim search g h woken
    have haim : aimPosition s.foc = aim := aimPosition_eq s.foc
    have hfocus : focusWake w = h := by
      have haimed : aimPosition w.foc = aim := haim
      rw [focusWake_eq, startSearch, haimed]
      rfl
    have hwoken (cause : List Byte) (motion : Option Nat) :
        wakePart cause motion s = woken (optionalField u16 motion) cause :=
      (wakePart_eq cause motion s).trans (congrArg (postAll _) hfocus)
    refine ⟨fun p => ⟨fun hawake => if_neg (by simp [hawake]), fun hdoze => ?_⟩, fun motion =>
      ⟨fun hlow => if_neg (Nat.not_le.2 hlow), fun hhigh hawake => ?_, fun hhigh hdoze => ?_⟩⟩
    · exact (if_pos hdoze).trans (hwoken _ none)
    · exact (if_pos hhigh).trans (if_neg (by simp [hawake]))
    · exact (if_pos hhigh).trans ((if_pos hdoze).trans (hwoken _ (some motion)))
  case requests =>
    intro r l
    obtain ⟨f, reseed, -, -, a, b, c, -, -, -, htaken⟩ := requestTaken_does p s
    have hliu : l = { s.liu with doze := false, minutes := 0, minuteFrom := s.now } := congrArg State.liu htaken
    rw [exec_wake_serves hs, exec_setIdle_serves hs]
    refine ⟨rfl, by rw [hliu], by rw [hliu], ?_⟩
    simp only [takeSetIdle, clamp, Nat.zero_max]
    cases wake <;> rfl

end Sys2Proof.Machine
end
